-- ==== Sys2Proof/Word.lean ====
section
/-! DEFINITION. The word types of the station and the fixed-size bank its like parts are kept in. -/

namespace Sys2Proof

/-- One byte on the line bus or in the configuration memory. -/
abbrev Byte := BitVec 8

/-- A position or a due position on an axis. A RING position lies in 0 to M−1 of it (R3, R4). -/
abbrev Pos := BitVec 32

/-- A station number, 0 to 31. -/
abbrev Station := BitVec 5

/-- An epoch, 0 to 15 (R2). -/
abbrev Epoch := BitVec 4

/-- The station-local number of an axis: 0 and 1 local, 2 to 7 mirrored. -/
abbrev Handle := Fin 8

/-- `n` like parts, numbered from 0: axes, rings, windows, roster entries. -/
abbrev Bank (α : Type) (n : Nat) := Vector α n

namespace Bank

variable {α : Type} {n : Nat}

/-- Part number `i`. -/
def get (v : Bank α n) (i : Fin n) : α := v[i.val]

/-- The bank with part number `i` replaced. -/
def put (v : Bank α n) (i : Fin n) (x : α) : Bank α n := v.set i.val x

/-- The bank whose part `i` is `f i`. -/
def tabulate (f : Fin n → α) : Bank α n := Vector.ofFn f

/-- The bank with every part `x` numbered `i` replaced by `f i x`. -/
def change (f : Fin n → α → α) (v : Bank α n) : Bank α n := tabulate fun i => f i (get v i)

/-- The bank of `n` equal parts. -/
def fill (x : α) : Bank α n := tabulate fun _ => x

@[simp] theorem get_put_self (v : Bank α n) (i : Fin n) (x : α) : get (put v i x) i = x := by
  simp [get, put]

@[simp] theorem get_put_ne (v : Bank α n) {i j : Fin n} (x : α) (h : i ≠ j) :
    get (put v i x) j = get v j := by
  have : i.val ≠ j.val := fun e => h (Fin.ext e)
  simp [get, put, this]

theorem get_put (v : Bank α n) (i j : Fin n) (x : α) :
    get (put v i x) j = if i = j then x else get v j := by
  by_cases h : i = j
  · subst h; simp
  · simp [h]

@[simp] theorem get_tabulate (f : Fin n → α) (i : Fin n) : get (tabulate f) i = f i := by
  simp [get, tabulate]

@[simp] theorem get_change (f : Fin n → α → α) (v : Bank α n) (i : Fin n) :
    get (change f v) i = f i (get v i) := by
  simp [change]

@[simp] theorem get_fill (x : α) (i : Fin n) : get (fill x : Bank α n) i = x := by
  simp [fill]

theorem ext_get {v w : Bank α n} (h : ∀ i, get v i = get w i) : v = w := by
  apply Vector.ext
  intro i hi
  exact h ⟨i, hi⟩

end Bank

end Sys2Proof
end

