-- ==== Sys2Proof/Syntax.lean ====
section
/-! DEFINITION. The commands and events the station takes: one constructor per row of spec/opcode_table.json. -/

namespace Sys2Proof

/-- What an action does to its output line (R21): SET, CLEAR, PULSE_TIME w (units of 10 µs), PULSE_DIST w (counts). -/
inductive Operation where
  | set
  | clear
  | pulseTime (width : BitVec 16)
  | pulseDist (width : BitVec 16)
  deriving DecidableEq, Repr

/-- An action: an output line Q0 to Q7 and an operation (R21, R154). -/
structure Action where
  line : Fin 8
  operation : Operation
  deriving DecidableEq, Repr

/-- What is seen on BUS_RXD (R117, R118). -/
inductive BusSample where
  /-- A fall that still reads 0 at the middle of its bit time, `idle` bit times of idle after the last event on the bus: a start
  bit. `stop` is what the stop bit of its byte reads; at 0 the byte has a framing error. -/
  | start (idle : Nat) (stop : Bool)
  /-- A low level shorter than half a bit time: not a start bit. -/
  | spike
  /-- The level outside bytes is `level` from here on: 1 again after a byte whose stop bit read 0, 0 from a fall that holds, or what
  the wires carry while the bus is not received. -/
  | level (level : Bool)
  deriving DecidableEq, Repr

/-- The readback mismatch of an own frame (R126): the number of the bit read back different, counted over the whole frame, and what
the stop bit of the byte in progress then reads; at a start bit after the lead byte's none is in progress. -/
structure Mismatch where
  bit : Nat
  stop : Bool
  deriving DecidableEq, Repr

/-- The commands and events. Each is whole and indivisible (95_what_each_step_holds.md). A console command carries the
requester (the source of the frame that carried its CMD item) and its transaction id (R169), then its
parameters as wide as section 8.10 lays them out. -/
inductive Instr where
  /-- COLD_RESET (R186): RESET_N is released (or power is up); the straps read `number` and `rate`. -/
  | coldReset (number : Station) (rate : BitVec 2)
  /-- READ_PASS (R189): a read pass ends. The memory answers with `memory` from address 0 on; beyond it CFG_MISO
  stands at `miso` (R188). -/
  | readPass (memory : List Byte) (miso : Bool)
  /-- QUAD4_EDGE (R12): a sample of A and B of a local axis. -/
  | quad4Edge (axis : Fin 2) (a b : Bool)
  /-- PULSE_DIR_EDGE (R13): a sample of A and B of a local axis. -/
  | pulseDirEdge (axis : Fin 2) (a b : Bool)
  /-- UP_DOWN_EDGE (R13): a sample of A and B of a local axis. -/
  | upDownEdge (axis : Fin 2) (a b : Bool)
  /-- RISING_Z_EDGE (R16): a sample of Z of a local axis; with `z` 1 after 0 it is the rising edge. -/
  | risingZEdge (axis : Fin 2) (z : Bool)
  /-- TIMED_PULSE_EXPIRY (R93): the remaining time of the line's TIMED pulse reaches 0. -/
  | timedPulseExpiry (line : Fin 8)
  /-- SENSOR_PIN_CHANGE (R46): the sensor's pin is seen at `level`. -/
  | sensorPinChange (sensor : Fin 4) (level : Bool)
  /-- QUALIFIED_CHANGE (R46): the sensor's pending change has been stable for the filter time. -/
  | qualifiedChange (sensor : Fin 4)
  /-- HOLD_IN_CHANGE (R161): the pin HOLD_IN_N is seen at `level` (0 is asserted). -/
  | holdInChange (level : Bool)
  /-- HOLD_IN_QUALIFY (R161): the pending change of HOLD_IN_N has been held for 1 ms. -/
  | holdInQualify
  /-- START_BIT (R124): a fall of BUS_RXD, which may be a start bit, or its return to 1 (R117, R118). -/
  | startBit (sample : BusSample)
  /-- RECEIVE_FRAME (R121): a frame ends at its last byte; `bytes` are its bytes from the lead byte on, and any that followed
  them with no idle between (R119, R120). -/
  | receiveFrame (bytes : List Byte)
  /-- FRAME_END_BY_IDLE (R120): the idle after a byte has exceeded 12 bit times. -/
  | frameEndByIdle
  /-- EMPTY_BUS (R132): the unbroken idle has reached 2072 bit times. -/
  | emptyBus
  /-- WAIT_EXPIRY (R123): the wait has run out. -/
  | waitExpiry
  /-- COMPLETION (R127): the own frame has been sent with no mismatch. -/
  | completion
  /-- ABORT (R126): a bit of the own frame is read back different. -/
  | abort (mismatch : Mismatch)
  /-- READ_STATUS (R178). -/
  | readStatus (requester : Station) (tid page handle : Byte)
  /-- READ_QUEUE (R41). -/
  | readQueue (requester : Station) (tid handle index : Byte)
  /-- TRIM_CAM (R78). -/
  | trimCam (requester : Station) (tid ring entry : Byte) (position : BitVec 32)
  /-- TRIM_RULE (R63). -/
  | trimRule (requester : Station) (tid rule : Byte) (offset : BitVec 32)
  /-- TRIM_WINDOW (R82). -/
  | trimWindow (requester : Station) (tid window : Byte) (lower upper : BitVec 32)
  /-- ARM with selector rule (R64). -/
  | armRule (requester : Station) (tid index arm start : Byte)
  /-- ARM with selector ring (R77). -/
  | armRing (requester : Station) (tid index arm start : Byte)
  /-- SET_ORIGIN (R16). -/
  | setOrigin (requester : Station) (tid handle : Byte) (value : BitVec 32)
  /-- ARM_INDEX with mode arm (R16). -/
  | armIndex (requester : Station) (tid handle : Byte) (value : BitVec 32)
  /-- ARM_INDEX with mode cancel (R16). -/
  | armIndexCancel (requester : Station) (tid handle : Byte)
  /-- INJECT_ENTRY (R39). -/
  | injectEntry (requester : Station) (tid handle : Byte) (due : BitVec 32) (sequence : BitVec 16)
      (tagClass : BitVec 4) (forward : Bool) (action : Option Action)
  /-- CLEAR_QUEUE (R40). -/
  | clearQueue (requester : Station) (tid handle : Byte)
  /-- CLEAR_COUNTS (R180). -/
  | clearCounts (requester : Station) (tid : Byte)
  /-- PULSE_OUTPUT (R98). -/
  | pulseOutput (requester : Station) (tid line : Byte) (width : BitVec 16)
  /-- RESTART (R181). -/
  | restart (requester : Station) (tid : Byte)
  /-- RESET_N_ASSERTED (R186): the device is held in reset. -/
  | resetNAsserted
  /-- A CMD item whose code byte is not 01h to 0Dh (R173). -/
  | unknownCommand (requester : Station) (tid code : Byte)
  deriving DecidableEq, Repr

end Sys2Proof
end

