-- ==== Sys2Proof/Decode.lean ====
section
/-! DEFINITION. The decoder over the rows of spec/opcode_table.json that give bits. No row gives any: the station takes events at
its pins and items in frames, not words. (The bytes of frames, items and the configuration block are read in
Machine/Operands.lean and Machine/Startup.lean.) -/

namespace Sys2Proof

/-- The command that the low `nbits` bits of `w` spell by the table's bits: none, since every row's `fields` is empty
(log entry 8). -/
def decodeTableWord (_nbits _w : Nat) : Option Instr := none

end Sys2Proof
end

