-- ==== Sys2Proof/Config.lean ====
section
/-! DEFINITION. The free values: what the spec leaves open at run time. -/

namespace Sys2Proof.Config

/-- The outcomes of the orders the spec leaves open, one after another: `State.works.choice` counts how many
have been taken. Nothing is known of any of them (DESIGN CHOICE, log entry 2; safe: every order the
spec allows is some value of it). -/
opaque freeChoice : Nat → Nat

end Sys2Proof.Config
end

