-- ==== Sys2Proof/Machine/State.lean ====
section
/-! DEFINITION. The station's state, all of it plain data, and its value at power-up. -/

namespace Sys2Proof.Machine

/-! ### Names the spec gives to kinds, modes and states -/

/-- How encoder edges become counts (R1). -/
inductive CountMode where
  | off | quad4 | pulseDir | upDown
  deriving DecidableEq, Repr

/-- The shape of a position line (R1). -/
inductive AxisKind where
  | track | ring
  deriving DecidableEq, Repr

/-- The direction of a move or of a count (R2, R5). -/
inductive Direction where
  | fwd | rev
  deriving DecidableEq, Repr

/-- The state of a local axis (R2). -/
inductive AxisState where
  | off | active | faulted
  deriving DecidableEq, Repr

/-- The state of a mirror (R103). -/
inductive MirrorState where
  | unseen | active | stale | remoteFault
  deriving DecidableEq, Repr

/-- Which qualified changes of a sensor are edges of interest (R44). -/
inductive EdgeSetting where
  | none | rise | fall | both
  deriving DecidableEq, Repr

/-- Which tags a rule sees (R59). -/
inductive RuleSource where
  | sensor (k : Fin 4)
  | line
  deriving DecidableEq, Repr

/-- What made a trigger queue entry (R21). -/
inductive EntrySource where
  | rule (k : Fin 8)
  | injected
  deriving DecidableEq, Repr

/-- The direction of crossing that takes a cam entry (R68). -/
inductive CamDirection where
  | fwd | rev | both
  deriving DecidableEq, Repr

/-- What drives an output line's level (R86). -/
inductive OutputMode where
  | action | window
  deriving DecidableEq, Repr

/-- Whether and how the device drives an output pin (R87). -/
inductive Condition where
  | released | forced | normal
  deriving DecidableEq, Repr

/-- The pulse running on an ACTION line (R87). -/
inductive Pulse where
  | idle
  /-- `remaining` units of 10 µs, of which `gone` CLK_IN periods of the current unit have passed. -/
  | timed (remaining gone : Nat)
  | distance (handle : Handle) (release : Pos)
  deriving DecidableEq, Repr

/-- The station state (R129). -/
inductive StationState where
  | loading | listening | rotating | lockedOut
  deriving DecidableEq, Repr

/-- What LOADING has found (R187). -/
inductive ConfigStatus where
  | pending | valid | invalid
  deriving DecidableEq, Repr

/-- What the station knows of a station number (R156). -/
inductive Presence where
  | unknown | present | absent
  deriving DecidableEq, Repr

/-- The kinds of notice (R194), in order of code. -/
inductive NoticeKind where
  | queueFull | lateDrop | lateFire | duplicate | missed | suppressed | epochDiscard | unmapped
  | txFull | cmdDropped | encoderFault | mirrorStale | mirrorJump | stationLost | collision | badFrame
  deriving DecidableEq, Repr

/-- The results of a command (R174), in order of code. -/
inductive Result where
  | ok | badParam | badState | noRoom | notPermitted | unknownCommand
  deriving DecidableEq, Repr

/-- What the receiver is reading (section 7.2). -/
inductive Reception where
  /-- No frame is being received. -/
  | none
  /-- A frame that began after at least G of idle: delimited by its length (R119). -/
  | frame
  /-- A gap violation: corrupt from its first byte, delimited by idle (R119). -/
  | corrupt
  /-- The first frame after LOADING, begun before G of idle: discarded without judgement (R121). -/
  | discarded
  /-- The remains of the station's own aborted frame (R126). -/
  | remains
  deriving DecidableEq, Repr

/-! ### Settings: what the configuration block gives (R191) -/

/-- A local axis (R1). -/
structure AxisSettings where
  mode : CountMode
  invert : Bool
  kind : AxisKind
  modulus : Nat
  publish : Bool
  deriving DecidableEq, Repr

/-- A mirror's subscription (R102); no line axis id: the handle is unused. -/
structure MirrorSettings where
  lineAxis : Option (BitVec 6)
  kind : AxisKind
  modulus : Nat
  deriving DecidableEq, Repr

/-- A sensor input (R44). The capture handle has a value in every sensor whose edge is not NONE. -/
structure SensorSettings where
  edge : EdgeSetting
  filter : BitVec 3
  lockout : Nat
  capture : Option Handle
  tagClass : BitVec 4
  publish : Bool
  deriving DecidableEq, Repr

/-- A tag rule (R59). `none` in a filter is 'any', `none` in the gate is 'absent'. `offset` and `armed` are the configured
values; the run-time copies stand in `Rule`. -/
structure RuleSettings where
  source : RuleSource
  classes : BitVec 16
  origin : Option Station
  hop : Option (BitVec 2)
  gate : Option (Fin 8)
  offset : BitVec 32
  action : Option Action
  forward : Bool
  armed : Bool
  deriving DecidableEq, Repr

/-- A cam entry (R68); the run-time copy of its position stands in `Ring`. -/
structure CamEntry where
  position : Pos
  direction : CamDirection
  enable : Bool
  action : Option Action
  deriving DecidableEq, Repr

/-- A cam ring (R68); its length L is the length of `entries`; no bound handle: the ring is unused. -/
structure RingSettings where
  handle : Option Handle
  entries : List CamEntry
  armed : Bool
  deriving DecidableEq, Repr

/-- A window (R79); no bound handle: the window is unused. -/
structure WindowSettings where
  handle : Option Handle
  lower : Pos
  upper : Pos
  deriving DecidableEq, Repr

/-- An output line (R86). -/
structure OutputSettings where
  mode : OutputMode
  followed : Option (Fin 8)
  lowActive : Bool
  safe : Bool
  deriving DecidableEq, Repr

/-- Every setting of the configuration block (R191). -/
structure Settings where
  absentLimit : Nat
  essential : BitVec 32
  console : BitVec 32
  noticeMask : BitVec 16
  holdOnFault : Bool
  lateTolerance : Nat
  jumpLimit : Nat
  axes : Bank AxisSettings 2
  mirrors : Bank MirrorSettings 6
  sensors : Bank SensorSettings 4
  rules : Bank RuleSettings 8
  rings : Bank RingSettings 4
  windows : Bank WindowSettings 8
  outputs : Bank OutputSettings 8
  deriving DecidableEq, Repr

/-- The settings in force while no block has been taken: before the end of LOADING, and in the degraded manner of R192. The
absent limit, the essential and console sets and the notice mask are those of R156, R176 and R194; axes, mirrors,
rings and windows are out of use (R192); the rest is zero (DESIGN CHOICE, log entry 3). -/
def Settings.unconfigured : Settings where
  absentLimit := 7
  essential := 0
  console := 0
  noticeMask := BitVec.allOnes 16
  holdOnFault := false
  lateTolerance := 0
  jumpLimit := 0
  axes := Bank.fill ⟨.off, false, .track, 0, false⟩
  mirrors := Bank.fill ⟨none, .track, 0⟩
  sensors := Bank.fill ⟨.none, 0, 0, none, 0, false⟩
  rules := Bank.fill ⟨.line, 0, none, none, none, 0, none, false, false⟩
  rings := Bank.fill ⟨none, [], false⟩
  windows := Bank.fill ⟨none, 0, 0⟩
  outputs := Bank.fill ⟨.action, none, false, false⟩

/-! ### Run-time state of the blocks -/

/-- The start-up unit (R187). -/
structure StartUp where
  status : ConfigStatus
  failingCheck : Nat
  passCount : Nat
  deriving DecidableEq, Repr

/-- A local axis (R2). `lastDirection` none: no count yet. `refA`, `refB`, `refZ` are the last sampled levels. -/
structure LocalAxis where
  position : Pos
  epoch : Epoch
  state : AxisState
  lastDirection : Option Direction
  arm : Option (BitVec 32)
  refA : Bool
  refB : Bool
  refZ : Bool
  deriving DecidableEq, Repr

/-- A mirror (R103). -/
structure Mirror where
  state : MirrorState
  epoch : Epoch
  position : Pos
  lastDirection : Option Direction
  deriving DecidableEq, Repr

/-- A tag (R51). -/
structure Tag where
  origin : Station
  sequence : BitVec 16
  tagClass : BitVec 4
  hop : BitVec 2
  lineAxis : BitVec 6
  epoch : Epoch
  position : Pos
  deriving DecidableEq, Repr

/-- A trigger queue entry (R21). Its axis is the handle in whose list it stands (`Works.queues`). -/
structure Entry where
  origin : Station
  sequence : BitVec 16
  source : EntrySource
  tagClass : BitVec 4
  hop : BitVec 2
  epoch : Epoch
  due : Pos
  action : Option Action
  forward : Bool
  stamp : Nat
  deriving DecidableEq, Repr

/-- A sensor (R45). `pin` is the level of its pin; a pending change is always to the level opposite to `qualified`, and holds
the CLK_IN periods it has been stable. -/
structure Sensor where
  pin : Bool
  qualified : Bool
  pending : Option Nat
  lockout : Nat
  deriving DecidableEq, Repr

/-- The run-time copies a tag rule holds (R59). -/
structure Rule where
  offset : BitVec 32
  armed : Bool
  deriving DecidableEq, Repr

/-- A cam ring (R69). -/
structure Ring where
  pointer : Nat
  armed : Bool
  positions : List Pos
  deriving DecidableEq, Repr

/-- A window (R79, R80). -/
structure Window where
  lower : Pos
  upper : Pos
  flag : Bool
  deriving DecidableEq, Repr

/-- An output line (R87). -/
structure Output where
  condition : Condition
  level : Bool
  pulse : Pulse
  followed : Bool
  deriving DecidableEq, Repr

/-- A response (R170, R174). `code` is the command code byte, of which the RSP item carries the low five bits. -/
structure Response where
  requester : Station
  tid : Byte
  code : Byte
  result : Result
  data : List Byte
  deriving DecidableEq, Repr

/-- An item of the transmit queue (R145). -/
inductive TxItem where
  | tag (t : Tag)
  | rsp (r : Response)
  deriving DecidableEq, Repr

/-- The notice unit (R194): a pending count of 0 is 'no record'. -/
structure Notices where
  pending : Bank Nat 16
  counters : Bank Nat 19
  deriving DecidableEq, Repr

/-- The blocks that axis events, tags and actions work on, with what they share: the trigger queue (one list for each handle, in
the order of R24), the sensors, cam rings, windows, output lines, the transmit queue and the notice unit.
`choice` is the model's own: how many free values have been taken (log entry 2). -/
structure Works where
  queues : Bank (List Entry) 8
  nextStamp : Nat
  sensors : Bank Sensor 4
  rings : Bank Ring 4
  windows : Bank Window 8
  outputs : Bank Output 8
  txQueue : List TxItem
  notices : Notices
  choice : Nat
  deriving DecidableEq, Repr

/-- A running wait (R123): its length W in bit times and the idle counted towards it, in CLK_IN periods. -/
structure Wait where
  length : Nat
  counted : Nat
  deriving DecidableEq, Repr

/-- The frame in flight: its bytes from the lead byte to the CRC, how many items it took from the head of the transmit queue
(R146), and the kinds and counts its NOTE item carries (R148). -/
structure Flight where
  bytes : List Byte
  taken : Nat
  notes : List (NoticeKind × Nat)
  deriving DecidableEq, Repr

/-- The bus controller (R137). `idle` and `byteLeft` are in CLK_IN periods. `rxd` is the level of BUS_RXD outside bytes (R117,
R118); while a byte is read it is what the byte's stop bit reads. -/
structure Bus where
  station : StationState
  number : Station
  rate : BitVec 2
  anchor : Option Station
  idle : Nat
  byteLeft : Nat
  reception : Reception
  fresh : Bool
  wait : Option Wait
  joined : List Station
  flight : Option Flight
  rxd : Bool
  deriving DecidableEq, Repr

/-- A roster entry (R156); its essential flag is a setting. -/
structure RosterEntry where
  state : Presence
  missed : Nat
  hold : Bool
  deriving DecidableEq, Repr

/-- The hold input (R161): the level of HOLD_IN_N, whether its qualified level is asserted, and the CLK_IN periods a pending
change has been stable. -/
structure HoldIn where
  pin : Bool
  asserted : Bool
  pending : Option Nat
  deriving DecidableEq, Repr

/-- A filled record of the reply cache (R170). -/
structure CacheRecord where
  tid : Byte
  response : Response
  deriving DecidableEq, Repr

/-- The command unit (R170). -/
structure CommandUnit where
  cache : Bank (Option CacheRecord) 32
  restartPending : Bool
  deriving DecidableEq, Repr

/-- The whole station. `pending` (the commands that wait) is the model's own; `held` says that RESET_N is asserted or power is
coming up (R186). -/
structure State where
  pending : List Instr
  held : Bool
  startup : StartUp
  cfg : Settings
  bus : Bus
  axes : Bank LocalAxis 2
  mirrors : Bank Mirror 6
  nextSequence : BitVec 16
  rules : Bank Rule 8
  holdIn : HoldIn
  roster : Bank RosterEntry 32
  command : CommandUnit
  works : Works
  deriving DecidableEq, Repr

/-- The reasons a command may fault: none. Every error the spec names is an effect on the state. -/
inductive Fault where
  deriving DecidableEq, Repr

/-- The reasons a command may be refused. -/
inductive Refusal where
  /-- Raised by an arm of `exec` that has no meaning yet (safe); no arm of this model raises it. -/
  | notModelled (mnemonic : String)
  deriving DecidableEq, Repr

/-! ### Cold values -/

/-- A local axis at a cold reset (R20): the reference levels are those of the inputs. -/
def LocalAxis.cold (x : LocalAxis) : LocalAxis where
  position := 0
  epoch := 0
  state := .off
  lastDirection := none
  arm := none
  refA := x.refA
  refB := x.refB
  refZ := x.refZ

/-- A mirror at any reset (R116). -/
def Mirror.unseen : Mirror := ⟨.unseen, 0, 0, none⟩

/-- A sensor at a cold reset (R67): the pin keeps the level it has. -/
def Sensor.cold (x : Sensor) : Sensor := ⟨x.pin, false, none, 0⟩

/-- A notice unit with nothing pending and every counter 0 (R199). -/
def Notices.clear : Notices := ⟨Bank.fill 0, Bank.fill 0⟩

/-- An output line that is released (R87, R101). -/
def Output.released : Output := ⟨.released, false, .idle, false⟩

/-- The consumer blocks at a cold reset (R42, R67, R84, R85, R101, R152, R199). -/
def Works.cold (w : Works) : Works where
  queues := Bank.fill []
  nextStamp := 0
  sensors := Bank.change (fun _ x => x.cold) w.sensors
  rings := Bank.fill ⟨0, false, []⟩
  windows := Bank.fill ⟨0, 0, false⟩
  outputs := Bank.fill Output.released
  txQueue := []
  notices := Notices.clear
  choice := w.choice

/-- The bus controller at a cold reset (R137, R130), BUS_RXD at the level the wires carry. -/
def Bus.cold (number : Station) (rate : BitVec 2) (rxd : Bool) : Bus where
  station := .loading
  number := number
  rate := rate
  anchor := none
  idle := 0
  byteLeft := 0
  reception := .none
  fresh := false
  wait := none
  joined := []
  flight := none
  rxd := rxd

/-- Every block at its cold value, the device held in reset (R186). The pins keep the levels they have, the station number and
bit rate hold until the straps are sampled, and the commands that wait still wait. -/
def State.cold (s : State) : State where
  pending := s.pending
  held := true
  startup := ⟨.pending, 0, 0⟩
  cfg := Settings.unconfigured
  bus := Bus.cold s.bus.number s.bus.rate s.bus.rxd
  axes := Bank.change (fun _ x => x.cold) s.axes
  mirrors := Bank.fill Mirror.unseen
  nextSequence := 0
  rules := Bank.fill ⟨0, false⟩
  holdIn := ⟨s.holdIn.pin, false, none⟩
  roster := Bank.fill ⟨.unknown, 0, false⟩
  command := ⟨Bank.fill none, false⟩
  works := s.works.cold

/-- The machine right after reset: power is up, RESET_N still asserted, every block at its cold value (R186); COLD_RESET then
samples the straps. The levels of the pins and the station number before the first sample are 0, HOLD_IN_N is at its
released level and BUS_RXD at its idle level (DESIGN CHOICE, log entry 4). -/
def State.reset : State where
  pending := []
  held := true
  startup := ⟨.pending, 0, 0⟩
  cfg := Settings.unconfigured
  bus := Bus.cold 0 0 true
  axes := Bank.fill ⟨0, 0, .off, none, none, false, false, false⟩
  mirrors := Bank.fill Mirror.unseen
  nextSequence := 0
  rules := Bank.fill ⟨0, false⟩
  holdIn := ⟨true, false, none⟩
  roster := Bank.fill ⟨.unknown, 0, false⟩
  command := ⟨Bank.fill none, false⟩
  works :=
    { queues := Bank.fill []
      nextStamp := 0
      sensors := Bank.fill ⟨false, false, none, 0⟩
      rings := Bank.fill ⟨0, false, []⟩
      windows := Bank.fill ⟨0, 0, false⟩
      outputs := Bank.fill Output.released
      txQueue := []
      notices := Notices.clear
      choice := 0 }

end Sys2Proof.Machine
end

