-- ==== Sys2Proof/Machine/Ops.lean ====
section
/-! DEFINITION. Position arithmetic (section 1.2), what a consumer reads of the axes (`Env`), the named updates of State, and
how an order the spec leaves open is taken from a free value. -/

namespace Sys2Proof.Machine

/-! ### Position arithmetic (R3 to R6) -/

/-- What decides the arithmetic of an axis: its kind and, on RING, its modulus M. -/
structure Geometry where
  kind : AxisKind
  modulus : Nat
  deriving DecidableEq, Repr

/-- The signed difference of `a` from `b`, −2^31 to 2^31−1 (R3). -/
def signedDifference (a b : Pos) : Int := (a - b).toInt

/-- `a` is ahead of `b`: at a signed difference of 1 to 2^31−1 (R3). -/
def isAhead (a b : Pos) : Bool := 0 < signedDifference a b

/-- The forward distance from `a` to `b`: modulo 2^32 on TRACK (R6), modulo M on RING (R4). -/
def forwardDistance (g : Geometry) (a b : Pos) : Nat :=
  match g.kind with
  | .track => (b - a).toNat
  | .ring => (b.toNat % g.modulus + (g.modulus - a.toNat % g.modulus)) % g.modulus

/-- The backward distance from `a` to `b` (R4, R6). -/
def backwardDistance (g : Geometry) (a b : Pos) : Nat := forwardDistance g b a

/-- `p` plus `w` counts forward: modulo 2^32 on TRACK, modulo M on RING (R3, R94). -/
def advance (g : Geometry) (p : Pos) (w : Nat) : Pos :=
  match g.kind with
  | .track => p + BitVec.ofNat 32 w
  | .ring => BitVec.ofNat 32 ((p.toNat + w) % g.modulus)

/-- One count in a direction, with the wrap of the kind (R3, R4, R15). -/
def stepPosition (g : Geometry) (d : Direction) (p : Pos) : Pos :=
  match g.kind, d with
  | .track, .fwd => p + 1
  | .track, .rev => p - 1
  | .ring, .fwd => if p.toNat + 1 < g.modulus then p + 1 else 0
  | .ring, .rev => if p = 0 then BitVec.ofNat 32 (g.modulus - 1) else p - 1

/-- A move of an axis: from an old to a new position, with its direction and distance (R5, R7). -/
structure Move where
  old : Pos
  new : Pos
  dir : Direction
  distance : Nat
  deriving DecidableEq, Repr

/-- The move from `old` to `new` (R5), none when they are equal: the sign of the difference on TRACK, the shorter way round on
RING, exactly M/2 forward. -/
def moveOf (g : Geometry) (old new : Pos) : Option Move :=
  if old = new then none
  else
    let f := forwardDistance g old new
    let forward := match g.kind with
      | .track => isAhead new old
      | .ring => decide (2 * f ≤ g.modulus)
    if forward then some ⟨old, new, .fwd, f⟩
    else some ⟨old, new, .rev, backwardDistance g old new⟩

/-- Whether a move crosses the target `t` (R6): (old, new] forward, [new, old) backward. -/
def crosses (g : Geometry) (m : Move) (t : Pos) : Bool :=
  let d := match m.dir with
    | .fwd => forwardDistance g m.old t
    | .rev => backwardDistance g m.old t
  decide (1 ≤ d) && decide (d ≤ m.distance)

/-- The direction opposite to `d` (R15, invert). -/
def opposite (d : Direction) : Direction :=
  match d with
  | .fwd => .rev
  | .rev => .fwd

/-! ### What the blocks read of the axes -/

/-- Which axis a handle names (chapter 1): 0 and 1 local, 2 to 7 mirrors. -/
inductive AxisRef where
  | loc (i : Fin 2)
  | mir (i : Fin 6)
  deriving DecidableEq, Repr

/-- The axis of a handle. -/
def axisRef (h : Handle) : AxisRef :=
  if hl : h.val < 2 then .loc ⟨h.val, hl⟩ else .mir ⟨h.val - 2, by omega⟩

/-- The handle of local axis `i`. -/
def localHandle (i : Fin 2) : Handle := ⟨i.val, by omega⟩

/-- The handle of mirror `i`. -/
def mirrorHandle (i : Fin 6) : Handle := ⟨i.val + 2, by omega⟩

/-- What the consumers of axis events, tags and actions read and do not change: the settings, the own number, the axes, the
tag rules and whether the line state is RUN. -/
structure Env where
  cfg : Settings
  number : Station
  axes : Bank LocalAxis 2
  mirrors : Bank Mirror 6
  rules : Bank Rule 8
  run : Bool
  deriving DecidableEq, Repr

/-- For its consumers a handle is ACTIVE or not ACTIVE (R10). -/
def Env.active (env : Env) (h : Handle) : Bool :=
  match axisRef h with
  | .loc i => (env.axes.get i).state = .active
  | .mir i => (env.mirrors.get i).state = .active

/-- The position a handle holds: the live count, or the last report taken (R114). -/
def Env.position (env : Env) (h : Handle) : Pos :=
  match axisRef h with
  | .loc i => (env.axes.get i).position
  | .mir i => (env.mirrors.get i).position

/-- The current epoch of a handle. -/
def Env.epoch (env : Env) (h : Handle) : Epoch :=
  match axisRef h with
  | .loc i => (env.axes.get i).epoch
  | .mir i => (env.mirrors.get i).epoch

/-- The kind and modulus a handle is configured or subscribed with. -/
def Settings.geometry (cfg : Settings) (h : Handle) : Geometry :=
  match axisRef h with
  | .loc i => ⟨(cfg.axes.get i).kind, (cfg.axes.get i).modulus⟩
  | .mir i => ⟨(cfg.mirrors.get i).kind, (cfg.mirrors.get i).modulus⟩

/-- A handle in use (section 11.4): a local mode other than OFF, or a subscription. -/
def Settings.inUse (cfg : Settings) (h : Handle) : Bool :=
  match axisRef h with
  | .loc i => (cfg.axes.get i).mode ≠ .off
  | .mir i => (cfg.mirrors.get i).lineAxis.isSome

/-- A TRACK handle in use (R56, section 11.4). -/
def Settings.isTrack (cfg : Settings) (h : Handle) : Bool :=
  cfg.inUse h && decide ((cfg.geometry h).kind = .track)

/-- The line axis id of local axis `i`: station number × 2 + i (chapter 1). -/
def ownLineAxis (number : Station) (i : Fin 2) : BitVec 6 := BitVec.ofNat 6 (2 * number.toNat + i.val)

/-- The line axis id of a handle: station number × 2 + i, or the subscribed id (R51, R65). -/
def Env.lineAxis (env : Env) (h : Handle) : Option (BitVec 6) :=
  match axisRef h with
  | .loc i => some (ownLineAxis env.number i)
  | .mir i => (env.cfg.mirrors.get i).lineAxis

/-- The axis is OFF, FAULTED or REMOTE_FAULT, so that the trigger queue refuses offers on it (R27 step 1, R28). -/
def Env.unusable (env : Env) (h : Handle) : Bool :=
  match axisRef h with
  | .loc i => (env.axes.get i).state ≠ .active
  | .mir i => (env.mirrors.get i).state = .remoteFault

/-! ### Named updates of State -/

/-- `s` with its consumer blocks replaced. -/
def State.withWorks (s : State) (w : Works) : State := { s with works := w }

/-- `s` with its bus controller replaced. -/
def State.withBus (s : State) (b : Bus) : State := { s with bus := b }

/-- `s` with local axis `i` replaced. -/
def State.withAxis (s : State) (i : Fin 2) (x : LocalAxis) : State := { s with axes := s.axes.put i x }

/-- `s` with mirror `i` replaced. -/
def State.withMirror (s : State) (i : Fin 6) (m : Mirror) : State := { s with mirrors := s.mirrors.put i m }

/-- `s` with roster entry `n` replaced. -/
def State.withEntry (s : State) (n : Fin 32) (e : RosterEntry) : State := { s with roster := s.roster.put n e }

/-- `s` with its command unit replaced. -/
def State.withCommand (s : State) (c : CommandUnit) : State := { s with command := c }

/-- `s` with its hold input replaced. -/
def State.withHoldIn (s : State) (x : HoldIn) : State := { s with holdIn := x }

/-- `s` with tag rule `k`'s run-time copies replaced. -/
def State.withRule (s : State) (k : Fin 8) (r : Rule) : State := { s with rules := s.rules.put k r }

/-- The roster entry number of a station. -/
def stationIndex (n : Station) : Fin 32 := n.toFin

/-! ### Orders the spec leaves open (log entry 2) -/

/-- The next free value, and the works with one more taken. -/
def Works.draw (w : Works) : Nat × Works :=
  (Config.freeChoice w.choice, { w with choice := w.choice + 1 })

/-- `fuel` items of `l`, each picked from those left by what `n` holds. -/
def pickOrder {α : Type} (fuel n : Nat) (l : List α) : List α :=
  match fuel with
  | 0 => []
  | k + 1 =>
    match l[n % l.length]? with
    | none => []
    | some x => x :: pickOrder k (n / l.length) (l.eraseIdx (n % l.length))

/-- `l` in the order that the free value `n` picks: every order is that of some `n`. -/
def permute {α : Type} (n : Nat) (l : List α) : List α := pickOrder l.length n l

/-- The given things in an order left open. A free value is taken only when there are two or more. -/
def Works.arrange {α : Type} (w : Works) (l : List α) : List α × Works :=
  if l.length ≤ 1 then (l, w) else (permute w.draw.1 l, w.draw.2)

end Sys2Proof.Machine
end

