-- ==== Sys2Proof/Machine/Flags.lean ====
section
/-! DEFINITION. The conditions the station derives from its state (hold causes, line state, FAULT_OUT_N) and the notice unit. -/

namespace Sys2Proof.Machine

/-! ### Conditions -/

/-- The configuration is valid (R187). -/
def State.valid (s : State) : Bool := s.startup.status = .valid

/-- The station receives frames: LISTENING, ROTATING or LOCKED_OUT (R113, R121, R130). -/
def State.receives (s : State) : Bool := !s.held && decide (s.bus.station ≠ .loading)

/-- The receiver takes what the bus carries (R118, R121, R130): the station receives, sends no frame of its own (R125), and BUS_RXD
is not held at 0 outside a byte. -/
def State.hears (s : State) : Bool := s.receives && s.bus.flight.isNone && s.bus.rxd

/-- Local axis fault: some local axis is FAULTED (R18). -/
def State.axisFault (s : State) : Bool :=
  decide ((s.axes.get 0).state = .faulted) || decide ((s.axes.get 1).state = .faulted)

/-- The own hold cause PIN (R161). -/
def State.causePin (s : State) : Bool := s.holdIn.asserted

/-- The own hold cause FAULT (R162). -/
def State.causeFault (s : State) : Bool := s.cfg.holdOnFault && s.axisFault

/-- Some own hold cause is present (R163). -/
def State.ownHold (s : State) : Bool := s.causePin || s.causeFault

/-- Another PRESENT station's last header asserts HOLD (R164). -/
def State.peerHold (s : State) : Bool :=
  (List.finRange 32).any fun n =>
    decide (n ≠ stationIndex s.bus.number) && decide ((s.roster.get n).state = .present) && (s.roster.get n).hold

/-- Every essential station is PRESENT (R164). -/
def State.essentialPresent (s : State) : Bool :=
  (List.finRange 32).all fun n => !s.cfg.essential.getLsbD n.val || decide ((s.roster.get n).state = .present)

/-- The line state is RUN (R164); otherwise it is HOLD. -/
def State.run (s : State) : Bool :=
  decide (s.bus.station = .rotating) && !s.ownHold && !s.peerHold && s.essentialPresent

/-- FAULT_OUT_N is asserted (R100). -/
def State.faultOut (s : State) : Bool :=
  decide (s.bus.station = .lockedOut) || decide (s.startup.status = .invalid) || s.axisFault

/-- The FAULT flag of an own header (R138). -/
def State.faultFlag (s : State) : Bool := decide (s.startup.status = .invalid) || s.axisFault

/-- The condition every output line has in the station as it stands (R88). -/
def State.lineCondition (s : State) : Condition :=
  if !s.valid then .released
  else if s.run then .normal
  else .forced

/-- What the consumers read of the station. -/
def State.env (s : State) : Env where
  cfg := s.cfg
  number := s.bus.number
  axes := s.axes
  mirrors := s.mirrors
  rules := s.rules
  run := s.run

/-! ### The notice unit (chapter 12) -/

/-- The code of a notice kind (R194). -/
def NoticeKind.code (k : NoticeKind) : Fin 16 :=
  match k with
  | .queueFull => 0 | .lateDrop => 1 | .lateFire => 2 | .duplicate => 3
  | .missed => 4 | .suppressed => 5 | .epochDiscard => 6 | .unmapped => 7
  | .txFull => 8 | .cmdDropped => 9 | .encoderFault => 10 | .mirrorStale => 11
  | .mirrorJump => 12 | .stationLost => 13 | .collision => 14 | .badFrame => 15

/-- The kinds in increasing code (R194). -/
def NoticeKind.all : List NoticeKind :=
  [.queueFull, .lateDrop, .lateFire, .duplicate, .missed, .suppressed, .epochDiscard, .unmapped,
   .txFull, .cmdDropped, .encoderFault, .mirrorStale, .mirrorJump, .stationLost, .collision, .badFrame]

/-- A counter that saturates at 65535 (R195, R197). -/
def countUp (n : Nat) : Nat := min 65535 (n + 1)

/-- Counter `k` advanced by 1. -/
def Notices.count (x : Notices) (k : Fin 19) : Notices :=
  { x with counters := x.counters.put k (countUp (x.counters.get k)) }

/-- The counter of a notice kind has the kind's code (R194). -/
def NoticeKind.counter (k : NoticeKind) : Fin 19 := ⟨k.code.val, by omega⟩

/-- One raising of a kind (R195): its counter advances, and its pending record when the mask enables it. -/
def Notices.raise (mask : BitVec 16) (k : NoticeKind) (x : Notices) : Notices :=
  let x := x.count k.counter
  if mask.getLsbD k.code.val then
    { x with pending := x.pending.put k.code (min 255 (x.pending.get k.code + 1)) }
  else x

/-- FRAMES_RECEIVED (R194). -/
def framesReceived : Fin 19 := 16

/-- FRAMES_SENT (R194). -/
def framesSent : Fin 19 := 17

/-- COMMANDS_EXECUTED (R194). -/
def commandsExecuted : Fin 19 := 18

/-- The pending kinds with their counts, in increasing code (R148). -/
def Notices.list (x : Notices) : List (NoticeKind × Nat) :=
  (NoticeKind.all.map fun k => (k, x.pending.get k.code)).filter fun p => p.2 ≠ 0

/-- A completion takes the carried counts off the pending records (R196). -/
def Notices.subtract (x : Notices) (carried : List (NoticeKind × Nat)) : Notices :=
  carried.foldl (fun x p => { x with pending := x.pending.put p.1.code (x.pending.get p.1.code - p.2) }) x

/-- A block raises a notice. -/
def Works.raise (w : Works) (env : Env) (k : NoticeKind) : Works :=
  { w with notices := w.notices.raise env.cfg.noticeMask k }

/-- A notice is raised `n` times (R43: once per entry concerned). -/
def Works.raiseTimes (w : Works) (env : Env) (k : NoticeKind) (n : Nat) : Works :=
  match n with
  | 0 => w
  | n + 1 => (w.raise env k).raiseTimes env k n

/-- An event counter other than a notice kind's advances (R197). -/
def Works.count (w : Works) (k : Fin 19) : Works := { w with notices := w.notices.count k }

/-- The station raises a notice. -/
def State.raise (s : State) (k : NoticeKind) : State := s.withWorks (s.works.raise s.env k)

end Sys2Proof.Machine
end

