-- ==== Sys2Proof/Machine/Outputs.lean ====
section
/-! DEFINITION. The output lines (chapter 5). -/

namespace Sys2Proof.Machine

/-- What an ACTION line in NORMAL makes of an operation (R92, R93, R94). `src` is the source axis; PULSE_OUTPUT has none.
A PULSE_DIST whose source axis is not ACTIVE is released at once (R94). -/
def Output.take (o : Output) (env : Env) (src : Option Handle) (op : Operation) : Output :=
  match op with
  | .set => { o with level := true, pulse := .idle }
  | .clear => { o with level := false, pulse := .idle }
  | .pulseTime w => { o with level := true, pulse := .timed w.toNat 0 }
  | .pulseDist w =>
    match src with
    | some h =>
      if env.active h then
        { o with level := true, pulse := .distance h (advance (env.cfg.geometry h) (env.position h) w.toNat) }
      else { o with level := false, pulse := .idle }
    | none => { o with level := false, pulse := .idle }

/-- A pulse that ends: level 0, IDLE (R93, R95, R96). -/
def Output.endPulse (o : Output) : Output := { o with level := false, pulse := .idle }

/-- An action reaches its line (R91): taken by an ACTION line in NORMAL, discarded by any other. -/
def Works.act (w : Works) (env : Env) (src : Option Handle) (a : Action) : Works :=
  let o := w.outputs.get a.line
  if (env.cfg.outputs.get a.line).mode = .action ∧ o.condition = .normal then
    { w with outputs := w.outputs.put a.line (o.take env src a.operation) }
  else w

/-- Actions reach their lines one after another (R33, R73, R91). -/
def Works.actAll (w : Works) (env : Env) (src : Option Handle) (l : List Action) : Works :=
  l.foldl (fun w a => w.act env src a) w

/-- A forward move that crosses the release position ends a DISTANCE pulse on its handle (R95). -/
def Output.onMove (o : Output) (env : Env) (h : Handle) (m : Move) : Output :=
  match o.pulse with
  | .distance h' r =>
    if h' = h ∧ m.dir = .fwd ∧ crosses (env.cfg.geometry h) m r then o.endPulse else o
  | _ => o

/-- A DISTANCE pulse on the handle is released at once (R96). -/
def Output.onLoss (o : Output) (h : Handle) : Output :=
  match o.pulse with
  | .distance h' _ => if h' = h then o.endPulse else o
  | _ => o

/-- Every line takes a move of handle `h` (R95). -/
def Works.releaseCrossed (w : Works) (env : Env) (h : Handle) (m : Move) : Works :=
  { w with outputs := w.outputs.change fun _ o => o.onMove env h m }

/-- Every line takes a loss or an epoch change of handle `h` (R96). -/
def Works.releaseLost (w : Works) (h : Handle) : Works :=
  { w with outputs := w.outputs.change fun _ o => o.onLoss h }

/-- A WINDOW line takes a flag that window `k` hands (R99). -/
def Output.onFlag (o : Output) (set : OutputSettings) (k : Fin 8) (flag : Bool) : Output :=
  if set.mode = .window ∧ set.followed = some k then
    { o with followed := flag, level := if o.condition = .normal then flag else o.level }
  else o

/-- A window hands its flag to every line that follows it (R81). -/
def Works.handFlag (w : Works) (env : Env) (k : Fin 8) (flag : Bool) : Works :=
  { w with outputs := w.outputs.change fun i o => o.onFlag (env.cfg.outputs.get i) k flag }

/-- A line comes under a condition (R87 to R90). A line already under it is not changed. -/
def Output.enter (o : Output) (set : OutputSettings) (c : Condition) : Output :=
  if o.condition = c then o
  else
    match c with
    | .released => { o with condition := .released, level := false, pulse := .idle }
    | .forced => { o with condition := .forced, level := set.safe, pulse := .idle }
    | .normal =>
      { o with
        condition := .normal
        level := match set.mode with
          | .action => false
          | .window => o.followed
        pulse := .idle }

/-- Every line comes under the condition `c` (R88). -/
def Works.enterCondition (w : Works) (env : Env) (c : Condition) : Works :=
  { w with outputs := w.outputs.change fun i o => o.enter (env.cfg.outputs.get i) c }

/-- The lines take the condition the station now gives them: handed a change of the line state or of the station state
(R88, R89, R90, R165). -/
def State.refreshLines (s : State) : State := s.withWorks (s.works.enterCondition s.env s.lineCondition)

/-- TIMED_PULSE_EXPIRY (R93): the line goes to level 0 with its pulse IDLE. A line whose pulse is not TIMED has nothing to
expire. -/
def Works.expire (w : Works) (line : Fin 8) : Works :=
  let o := w.outputs.get line
  match o.pulse with
  | .timed _ _ => { w with outputs := w.outputs.put line o.endPulse }
  | _ => w

/-- The meaning of TIMED_PULSE_EXPIRY (R93). -/
def execTimedPulseExpiry (line : Fin 8) (s : State) : Host.Outcome State Fault Refusal :=
  .next (s.withWorks (s.works.expire line))

end Sys2Proof.Machine
end

