-- ==== Sys2Proof/Machine/Cams.lean ====
section
/-! DEFINITION. Cam rings and windows (chapter 4). -/

namespace Sys2Proof.Machine

/-- A crossing in direction `d` takes an entry of direction `c` (R74). -/
def CamDirection.qualifies (c : CamDirection) (d : Direction) : Bool :=
  match c, d with
  | .both, _ => true
  | .fwd, .fwd => true
  | .rev, .rev => true
  | .fwd, .rev => false
  | .rev, .fwd => false

/-- The walk of R71 from entry `p`, at most `fuel` entries: the pointer after it and the entries taken, in ring order. -/
def walkRing (entries : List CamEntry) (positions : List Pos) (g : Geometry) (m : Move) (fuel p : Nat) :
    Nat × List CamEntry :=
  match fuel with
  | 0 => (p, [])
  | n + 1 =>
    match entries[p]?, positions[p]? with
    | some e, some t =>
      if crosses g m t ∧ e.direction.qualifies m.dir then
        let r := walkRing entries positions g m n (if p + 1 = entries.length then 0 else p + 1)
        (r.1, e :: r.2)
      else (p, [])
    | _, _ => (p, [])

/-- The ring evaluates events of handle `h`: bound to it, armed, and the axis ACTIVE (R70). -/
def Works.ringEvaluates (w : Works) (env : Env) (h : Handle) (r : Fin 4) : Bool :=
  decide ((env.cfg.rings.get r).handle = some h) && (w.rings.get r).armed && env.active h

/-- The walk a ring makes over a move: each entry is tested at most once, so at most L of them (R71). -/
def Works.ringWalk (w : Works) (env : Env) (h : Handle) (m : Move) (r : Fin 4) : Nat × List CamEntry :=
  let set := env.cfg.rings.get r
  let x := w.rings.get r
  walkRing set.entries x.positions (env.cfg.geometry h) m set.entries.length x.pointer

/-- A ring takes a move, be it a position event or a silent passage: the pointer moves on alike (R71, R75). -/
def Works.ringMove (w : Works) (env : Env) (h : Handle) (m : Move) (r : Fin 4) : Works :=
  if w.ringEvaluates env h r then
    { w with rings := w.rings.put r { w.rings.get r with pointer := (w.ringWalk env h m r).1 } }
  else w

/-- The actions a ring hands over at a position event, in ring order: those of the enabled entries it takes, in RUN (R72, R73). -/
def Works.ringActions (w : Works) (env : Env) (h : Handle) (m : Move) (r : Fin 4) : List Action :=
  if w.ringEvaluates env h r && env.run then
    ((w.ringWalk env h m r).2.filter fun e => e.enable).filterMap fun e => e.action
  else []

/-- Every ring takes a move. -/
def Works.ringsMove (w : Works) (env : Env) (h : Handle) (m : Move) : Works :=
  (List.finRange 4).foldl (fun w r => w.ringMove env h m r) w

/-- An epoch change sets the pointer of every ring bound to the handle to 0 (R76). -/
def Works.ringsEpoch (w : Works) (env : Env) (h : Handle) : Works :=
  { w with rings := w.rings.change fun r x =>
      if (env.cfg.rings.get r).handle = some h then { x with pointer := 0 } else x }

/-- The position `p` lies in the window (R80). -/
def inWindow (g : Geometry) (lower upper p : Pos) : Bool :=
  match g.kind with
  | .track =>
    decide (0 ≤ signedDifference p lower) && decide (signedDifference p lower ≤ signedDifference upper lower)
  | .ring => decide (forwardDistance g lower p ≤ forwardDistance g lower upper)

/-- The flag a window has from its axis as it stands (R80); an unused window's is 0 (R79). -/
def Works.windowFlag (w : Works) (env : Env) (k : Fin 8) : Bool :=
  match (env.cfg.windows.get k).handle with
  | none => false
  | some h =>
    env.active h && inWindow (env.cfg.geometry h) (w.windows.get k).lower (w.windows.get k).upper (env.position h)

/-- A window recomputes its flag and hands a change to the lines that follow it (R81). -/
def Works.recompute (w : Works) (env : Env) (k : Fin 8) : Works :=
  let f := w.windowFlag env k
  if f = (w.windows.get k).flag then w
  else Works.handFlag { w with windows := w.windows.put k { w.windows.get k with flag := f } } env k f

/-- The windows on handle `h` recompute (R81). -/
def Works.recomputeOn (w : Works) (env : Env) (h : Handle) : Works :=
  (List.finRange 8).foldl
    (fun w k => if (env.cfg.windows.get k).handle = some h then w.recompute env k else w) w

/-- Every window recomputes (R85). -/
def Works.recomputeAll (w : Works) (env : Env) : Works :=
  (List.finRange 8).foldl (fun w k => w.recompute env k) w

end Sys2Proof.Machine
end

