-- ==== Sys2Proof/Machine/TxQueue.lean ====
section
/-! DEFINITION. The transmit queue (section 8.4) and what the tag path offers it (R54, R65). -/

namespace Sys2Proof.Machine

/-- A TAG item. -/
def TxItem.isTag (i : TxItem) : Bool :=
  match i with
  | .tag _ => true
  | .rsp _ => false

/-- How many TAG items the transmit queue holds, in flight included (R145). -/
def Works.tagsHeld (w : Works) : Nat := w.txQueue.countP TxItem.isTag

/-- How many response places are in use, in flight included (R145). -/
def Works.responsesHeld (w : Works) : Nat := w.txQueue.countP fun i => !i.isTag

/-- A TAG item is offered (R54, R145): admitted to the tail while fewer than 12 are held, else lost with TX_FULL. -/
def Works.offerTag (w : Works) (env : Env) (t : Tag) : Works :=
  if w.tagsHeld < 12 then { w with txQueue := w.txQueue ++ [.tag t] }
  else w.raise env .txFull

/-- An RSP item joins the tail (R145): the command unit has found a response place free. -/
def Works.queueResponse (w : Works) (r : Response) : Works := { w with txQueue := w.txQueue ++ [.rsp r] }

/-- The forwarding of an entry that fires or is suppressed on handle `h` (R33, R65): only with forward yes and hop 0 to 2. -/
def Works.forwardTag (w : Works) (env : Env) (h : Handle) (e : Entry) : Works :=
  if e.forward ∧ e.hop ≠ 3 then
    match env.lineAxis h with
    | some id =>
      w.offerTag env
        { origin := e.origin, sequence := e.sequence, tagClass := e.tagClass, hop := e.hop + 1
          lineAxis := id, epoch := e.epoch, position := e.due }
    | none => w
  else w

end Sys2Proof.Machine
end

