-- ==== Sys2Proof/Machine/Queue.lean ====
section
/-! DEFINITION. The trigger queue (chapter 2). -/

namespace Sys2Proof.Machine

/-- How many entries the queue holds, over all handles (R23). -/
def Works.entriesHeld (w : Works) : Nat :=
  (w.queues.get 0).length + (w.queues.get 1).length + (w.queues.get 2).length + (w.queues.get 3).length +
  (w.queues.get 4).length + (w.queues.get 5).length + (w.queues.get 6).length + (w.queues.get 7).length

/-- Two entries with one key: the same origin, sequence and source (R23). -/
def Entry.sameKey (a b : Entry) : Bool :=
  decide (a.origin = b.origin) && decide (a.sequence = b.sequence) && decide (a.source = b.source)

/-- An entry with the key of `e` is held, on whatever handle (R23). -/
def Works.keyHeld (w : Works) (e : Entry) : Bool :=
  (List.finRange 8).any fun h => (w.queues.get h).any fun x => x.sameKey e

/-- An entry's distance ahead of a position (R24). -/
def Entry.distanceAhead (e : Entry) (p : Pos) : Int := signedDifference e.due p

/-- The place of an offered entry (R24): after every entry whose distance ahead is at most its own. -/
def insertEntry (p : Pos) (e : Entry) (l : List Entry) : List Entry :=
  match l with
  | [] => [e]
  | x :: xs => if x.distanceAhead p ≤ e.distanceAhead p then x :: insertEntry p e xs else e :: x :: xs

/-- What an offer came to (R27). -/
inductive OfferOutcome where
  | inserted | lateFired | queueFull | lateDrop | unmapped | epochDiscard | duplicate
  deriving DecidableEq, Repr

/-- An entry leaves by firing (line state RUN) or suppression (HOLD), all but its action: SUPPRESSED is raised in HOLD, and the
forwarding is handed over in both (R33, R34). -/
def Works.leave (w : Works) (env : Env) (h : Handle) (e : Entry) : Works :=
  (if env.run then w else w.raise env .suppressed).forwardTag env h e

/-- The action a leaving entry hands to its line: none in HOLD (R33, R34). -/
def Entry.firedAction (e : Entry) (env : Env) : Option Action := if env.run then e.action else none

/-- A late fire (R29): fired or suppressed at the moment of the offer, never stored. -/
def Works.lateFire (w : Works) (env : Env) (h : Handle) (e : Entry) : Works :=
  (((w.raise env .lateFire).actAll env (some h) (e.firedAction env).toList)).leave env h e

/-- The lateness of an entry at or behind the axis position, 0 to 2^31 (R29). -/
def Entry.lateness (e : Entry) (p : Pos) : Nat := (p - e.due).toNat

/-- An entry offered on handle `h` is decided by the ordered steps of R27. -/
def Works.offer (w : Works) (env : Env) (h : Handle) (e : Entry) : OfferOutcome × Works :=
  let p := env.position h
  if env.unusable h then (.unmapped, w.raise env .unmapped)
  else if e.epoch ≠ env.epoch h then (.epochDiscard, w.raise env .epochDiscard)
  else if w.keyHeld e then (.duplicate, w.raise env .duplicate)
  else if isAhead e.due p then
    if w.entriesHeld < 64 then
      (.inserted,
        { w with
          queues := w.queues.put h (insertEntry p { e with stamp := w.nextStamp } (w.queues.get h))
          nextStamp := w.nextStamp + 1 })
    else (.queueFull, w.raise env .queueFull)
  else if e.lateness p ≤ env.cfg.lateTolerance then (.lateFired, w.lateFire env h e)
  else (.lateDrop, w.raise env .lateDrop)

/-- The entries of handle `h` that `gone` names are removed as MISSED (R35, R36, R38). -/
def Works.removeMissed (w : Works) (env : Env) (h : Handle) (gone : Entry → Bool) : Works :=
  let l := w.queues.get h
  Works.raiseTimes { w with queues := w.queues.put h (l.filter fun e => !gone e) } env .missed (l.countP gone)

/-- Backward overrun (R35): the distance ahead plus the move's distance exceeds 2^31−1. -/
def Entry.overrun (m : Move) (e : Entry) : Bool :=
  decide (2147483647 < e.distanceAhead m.old + (m.distance : Int))

/-- The queue takes a position event (R32, R35). It answers with the actions it hands to the output lines, in queue order. -/
def Works.queueMove (w : Works) (env : Env) (h : Handle) (m : Move) : List Action × Works :=
  match m.dir with
  | .fwd =>
    let l := w.queues.get h
    let gone := l.filter fun e => crosses (env.cfg.geometry h) m e.due
    let kept := l.filter fun e => !crosses (env.cfg.geometry h) m e.due
    (gone.filterMap fun e => e.firedAction env,
      gone.foldl (fun w e => w.leave env h e) { w with queues := w.queues.put h kept })
  | .rev => ([], w.removeMissed env h (Entry.overrun m))

/-- The queue takes a silent passage (R36). -/
def Works.queuePassage (w : Works) (env : Env) (h : Handle) (m : Move) : Works :=
  match m.dir with
  | .fwd => w.removeMissed env h fun e => crosses (env.cfg.geometry h) m e.due
  | .rev => w.removeMissed env h (Entry.overrun m)

/-- The queue takes an epoch change (R37): every entry of the handle is discarded. -/
def Works.queueEpoch (w : Works) (env : Env) (h : Handle) : Works :=
  Works.raiseTimes { w with queues := w.queues.put h [] } env .epochDiscard (w.queues.get h).length

/-- The queue takes a change to ACTIVE without a move (R38). -/
def Works.queueActive (w : Works) (env : Env) (h : Handle) : Works :=
  w.removeMissed env h fun e => !isAhead e.due (env.position h)

/-- The queue is emptied (R42). -/
def Works.emptyQueue (w : Works) : Works := { w with queues := Bank.fill [], nextStamp := 0 }

/-- CLEAR_QUEUE's effect on one handle (R40). -/
def Works.clearHandle (w : Works) (h : Handle) : Works := { w with queues := w.queues.put h [] }

/-- CLEAR_QUEUE's effect for all handles (R40). -/
def Works.clearHandles (w : Works) : Works := { w with queues := Bank.fill [] }

end Sys2Proof.Machine
end

