-- ==== Sys2Proof/Machine/Events.lean ====
section
/-! DEFINITION. The four kinds of event a handle delivers to its consumers (section 1.3): position event, silent passage,
epoch change and axis state change. At delivery the axis already stands at the new position (R7): `env` is read after
the axis has moved. -/

namespace Sys2Proof.Machine

/-- Forward motion lessens the lockout of the sensors that capture on the handle (R49). -/
def Works.lockoutsMove (w : Works) (env : Env) (h : Handle) (m : Move) : Works :=
  { w with sensors := w.sensors.change fun k x =>
      if (env.cfg.sensors.get k).capture = some h ∧ m.dir = .fwd then { x with lockout := x.lockout - m.distance }
      else x }

/-- An epoch change ends the lockouts counted on the handle (R50). -/
def Works.lockoutsEnd (w : Works) (env : Env) (h : Handle) : Works :=
  { w with sensors := w.sensors.change fun k x =>
      if (env.cfg.sensors.get k).capture = some h then { x with lockout := 0 } else x }

/-- The lists of actions that the trigger queue and the rings hand over in answer to a position event, empty ones left out. -/
def Works.eventActions (w : Works) (env : Env) (h : Handle) (m : Move) : List (List Action) :=
  (((w.queueMove env h m).1 :: (List.finRange 4).map fun r => w.ringActions env h m r)).filter fun l => !l.isEmpty

/-- A position event (R7): distance pulses release, lockouts run down, the queue and the rings take the move, their actions reach
the lines (queue and rings in an order left open, R73), and the windows recompute. A release and an action of one
event on one line end as the action sets it in either order (R97), so the releases are taken first. -/
def Works.positionEvent (w : Works) (env : Env) (h : Handle) (m : Move) : Works :=
  let acts := w.arrange (w.eventActions env h m)
  let w' := ((((acts.2.releaseCrossed env h m).lockoutsMove env h m).queueMove env h m).2).ringsMove env h m
  (w'.actAll env (some h) acts.1.flatten).recomputeOn env h

/-- A silent passage (R8): evaluated like a move, with all actions withheld. -/
def Works.silentPassage (w : Works) (env : Env) (h : Handle) (m : Move) : Works :=
  (((((w.releaseCrossed env h m).lockoutsMove env h m).queuePassage env h m).ringsMove env h m).recomputeOn env h)

/-- An epoch change (R9). -/
def Works.epochChange (w : Works) (env : Env) (h : Handle) : Works :=
  (((((w.releaseLost h).lockoutsEnd env h).queueEpoch env h).ringsEpoch env h).recomputeOn env h)

/-- An axis state change to ACTIVE without a move (R10, R38, R76). -/
def Works.becomesActive (w : Works) (env : Env) (h : Handle) : Works :=
  (w.queueActive env h).recomputeOn env h

/-- An axis state change to a state other than ACTIVE (R10, R96). -/
def Works.stopsBeingActive (w : Works) (env : Env) (h : Handle) : Works :=
  (w.releaseLost h).recomputeOn env h

/-- The station delivers a position event. -/
def State.positionEvent (s : State) (h : Handle) (m : Move) : State := s.withWorks (s.works.positionEvent s.env h m)

/-- The station delivers a silent passage. -/
def State.silentPassage (s : State) (h : Handle) (m : Move) : State := s.withWorks (s.works.silentPassage s.env h m)

/-- The station delivers an epoch change. -/
def State.epochChange (s : State) (h : Handle) : State := s.withWorks (s.works.epochChange s.env h)

/-- The station delivers an axis state change to ACTIVE. -/
def State.becomesActive (s : State) (h : Handle) : State := s.withWorks (s.works.becomesActive s.env h)

/-- The station delivers an axis state change to not ACTIVE. -/
def State.stopsBeingActive (s : State) (h : Handle) : State := s.withWorks (s.works.stopsBeingActive s.env h)

end Sys2Proof.Machine
end

