-- ==== Sys2Proof/Machine/Axes.lean ====
section
/-! DEFINITION. The local axes: counting and origin events (sections 1.4 and 1.5). -/

namespace Sys2Proof.Machine

/-- What a sample of (A, B) is in QUAD4 mode (R12). -/
inductive QuadResult where
  | none
  | count (d : Direction)
  | fault
  deriving DecidableEq, Repr

/-- The table of R12, previous (A, B) then new (A, B): a leading B is forward. -/
def quadDecode (a b a' b' : Bool) : QuadResult :=
  match a, b, a', b' with
  | false, false, true, false => .count .fwd
  | false, false, false, true => .count .rev
  | false, false, true, true => .fault
  | true, false, true, true => .count .fwd
  | true, false, false, false => .count .rev
  | true, false, false, true => .fault
  | true, true, false, true => .count .fwd
  | true, true, true, false => .count .rev
  | true, true, false, false => .fault
  | false, true, false, false => .count .fwd
  | false, true, true, true => .count .rev
  | false, true, true, false => .fault
  | _, _, _, _ => .none

/-- A count in direction `d` before inversion is applied to an ACTIVE axis (R15). -/
def State.count (s : State) (i : Fin 2) (d : Direction) : State :=
  let x := s.axes.get i
  let set := s.cfg.axes.get i
  let g : Geometry := ⟨set.kind, set.modulus⟩
  let d' := if set.invert then opposite d else d
  let p := stepPosition g d' x.position
  if x.state = .active then
    (s.withAxis i { x with position := p, lastDirection := some d' }).positionEvent (localHandle i)
      ⟨x.position, p, d', 1⟩
  else s

/-- An encoder fault on an ACTIVE axis (R14): FAULTED, ENCODER_FAULT raised, the axis state change delivered, and the line state
derived anew for the own hold cause FAULT (R162, R164). -/
def State.encoderFault (s : State) (i : Fin 2) : State :=
  (((s.withAxis i { s.axes.get i with state := .faulted }).raise .encoderFault).stopsBeingActive
    (localHandle i)).refreshLines

/-- A sample in QUAD4 mode (R12), the reference levels before it being `a` and `b`. -/
def State.quadSample (s : State) (i : Fin 2) (a b a' b' : Bool) : State :=
  match quadDecode a b a' b' with
  | .none => s
  | .count d => s.count i d
  | .fault => s.encoderFault i

/-- A sample in PULSE_DIR mode (R13): one count at a rising A, B giving the direction. -/
def State.pulseDirSample (s : State) (i : Fin 2) (a a' b' : Bool) : State :=
  if !a && a' then s.count i (if b' then .rev else .fwd) else s

/-- A sample in UP_DOWN mode (R13): a rising A counts forward, a rising B backward, both in an order left open. -/
def State.upDownSample (s : State) (i : Fin 2) (a b a' b' : Bool) : State :=
  let up := !a && a'
  let down := !b && b'
  if up && down then
    let s' := s.withWorks s.works.draw.2
    if s.works.draw.1 % 2 = 0 then (s'.count i .fwd).count i .rev else (s'.count i .rev).count i .fwd
  else if up then s.count i .fwd
  else if down then s.count i .rev
  else s

/-- A sample of A and B (R11): the reference levels take it in every axis state, and an ACTIVE axis counts by its mode. -/
def State.sampleAB (s : State) (i : Fin 2) (a b : Bool) : State :=
  let x := s.axes.get i
  let s' := s.withAxis i { x with refA := a, refB := b }
  if x.state = .active then
    match (s.cfg.axes.get i).mode with
    | .off => s'
    | .quad4 => s'.quadSample i x.refA x.refB a b
    | .pulseDir => s'.pulseDirSample i x.refA a b
    | .upDown => s'.upDownSample i x.refA x.refB a b
  else s'

/-- The meaning of QUAD4_EDGE (R11, R12). The axis's own mode decodes the sample, whatever row brought it (log entry 9). -/
def execQuad4Edge (axis : Fin 2) (a b : Bool) (s : State) : Host.Outcome State Fault Refusal :=
  .next (s.sampleAB axis a b)

/-- The meaning of PULSE_DIR_EDGE (R11, R13; log entry 9). -/
def execPulseDirEdge (axis : Fin 2) (a b : Bool) (s : State) : Host.Outcome State Fault Refusal :=
  .next (s.sampleAB axis a b)

/-- The meaning of UP_DOWN_EDGE (R11, R13; log entry 9). -/
def execUpDownEdge (axis : Fin 2) (a b : Bool) (s : State) : Host.Outcome State Fault Refusal :=
  .next (s.sampleAB axis a b)

/-- The origin event of a local axis with value `v` (R16): new position, next epoch, ACTIVE, no direction, arm clear; the epoch
change is delivered, and the line state derived anew when the fault it may have ended was a hold cause (R162). -/
def State.originEvent (s : State) (i : Fin 2) (v : Pos) : State :=
  let x := s.axes.get i
  ((s.withAxis i
      { x with position := v, epoch := x.epoch + 1, state := .active, lastDirection := none, arm := none }).epochChange
    (localHandle i)).refreshLines

/-- A sample of Z (R11, R16): at a rising edge of an axis that is ACTIVE or FAULTED and armed, the origin event happens. -/
def State.sampleZ (s : State) (i : Fin 2) (z : Bool) : State :=
  let x := s.axes.get i
  let s' := s.withAxis i { x with refZ := z }
  if !x.refZ && z && decide (x.state ≠ .off) then
    match x.arm with
    | some v => s'.originEvent i v
    | none => s'
  else s'

/-- The meaning of RISING_Z_EDGE (R16). -/
def execRisingZEdge (axis : Fin 2) (z : Bool) (s : State) : Host.Outcome State Fault Refusal :=
  .next (s.sampleZ axis z)

end Sys2Proof.Machine
end

