-- ==== Sys2Proof/Machine/Operands.lean ====
section
/-! DEFINITION. Bytes: the CRC, the layouts of section 8.10 for items, commands, responses and actions, and the bits of a
frame on the wire. -/

namespace Sys2Proof.Machine

/-! ### Multi-byte quantities (R144: high byte first) -/

/-- A 16-bit quantity. -/
def be16 (b0 b1 : Byte) : BitVec 16 := b0 ++ b1

/-- A 32-bit quantity. -/
def be32 (b0 b1 b2 b3 : Byte) : BitVec 32 := b0 ++ b1 ++ b2 ++ b3

/-- The bytes of a 16-bit quantity. -/
def bytes16 (x : BitVec 16) : List Byte := [x.extractLsb' 8 8, x.extractLsb' 0 8]

/-- The bytes of a 32-bit quantity. -/
def bytes32 (x : BitVec 32) : List Byte :=
  [x.extractLsb' 24 8, x.extractLsb' 16 8, x.extractLsb' 8 8, x.extractLsb' 0 8]

/-- One bit as a byte's lowest bit. -/
def bit (b : Bool) : Byte := if b then 1 else 0

/-! ### The CRC (R140) -/

/-- The register after one bit: x^16 + x^12 + x^5 + 1, most significant bit first. -/
def crcBit (c : BitVec 16) (b : Bool) : BitVec 16 :=
  if (c.getLsbD 15 ^^ b) then (c <<< 1) ^^^ 0x1021#16 else c <<< 1

/-- The register after one byte, bit 7 first. -/
def crcByte (c : BitVec 16) (b : Byte) : BitVec 16 :=
  [7, 6, 5, 4, 3, 2, 1, 0].foldl (fun c k => crcBit c (b.getLsbD k)) c

/-- CRC-16 with initial value FFFFh. -/
def crc16 (l : List Byte) : BitVec 16 := l.foldl crcByte 0xFFFF#16

/-! ### Actions (R154) -/

/-- The action its three bytes carry; `none` is an absent action, whose other bits are not read. -/
def actionOf (b0 b1 b2 : Byte) : Option Action :=
  if b0.getLsbD 7 then
    let w := be16 b1 b2
    let op : Operation := match (b0.extractLsb' 4 2).toNat with
      | 0 => .set
      | 1 => .clear
      | 2 => .pulseTime w
      | _ => .pulseDist w
    some ⟨(b0.extractLsb' 0 3).toFin, op⟩
  else none

/-- The three bytes of an action: all 0 when absent, width 0 for SET and CLEAR. -/
def actionBytes (a : Option Action) : List Byte :=
  match a with
  | none => [0, 0, 0]
  | some a =>
    let head (op : Byte) : Byte := 0x80#8 ||| (op <<< 4) ||| BitVec.ofNat 8 a.line.val
    match a.operation with
    | .set => [head 0, 0, 0]
    | .clear => [head 1, 0, 0]
    | .pulseTime w => head 2 :: bytes16 w
    | .pulseDist w => head 3 :: bytes16 w

/-- A pulse of width 0, which INJECT_ENTRY and the configuration refuse (R154). -/
def emptyPulse (op : Operation) : Bool :=
  match op with
  | .pulseTime w => w = 0
  | .pulseDist w => w = 0
  | .set => false
  | .clear => false

/-! ### Items (R139, R141, R143) -/

/-- An item: the kind of its head and its body. -/
structure Item where
  kind : Nat
  body : List Byte
  deriving DecidableEq, Repr

/-- The walk of R141: `n` items that fill the body exactly. -/
def walkItems (n : Nat) (body : List Byte) : Option (List Item) :=
  match n, body with
  | 0, [] => some []
  | 0, _ :: _ => none
  | _ + 1, [] => none
  | n + 1, hd :: tl =>
    let len := (hd.extractLsb' 0 4).toNat
    if tl.length < len then none
    else (walkItems n (tl.drop len)).map fun l => ⟨(hd.extractLsb' 4 4).toNat, tl.take len⟩ :: l

/-- An item with its head byte in front. -/
def itemBytes (kind : Nat) (body : List Byte) : List Byte := BitVec.ofNat 8 (16 * kind + body.length) :: body

/-- The direction code of an AXIS item (section 8.10). -/
def directionCode (d : Option Direction) : Byte :=
  match d with
  | none => 0
  | some .fwd => 1
  | some .rev => 2

/-- The direction a code stands for; 3 is read as none (R144). -/
def directionOf (code : BitVec 2) : Option Direction :=
  if code = 1 then some .fwd else if code = 2 then some .rev else none

/-- The content of an AXIS item (R104). -/
structure AxisReport where
  faulted : Bool
  kind : AxisKind
  lineAxis : BitVec 6
  direction : Option Direction
  epoch : Epoch
  position : Pos
  deriving DecidableEq, Repr

/-- The AXIS body of six bytes; `none` for another length. -/
def axisReportOf (body : List Byte) : Option AxisReport :=
  match body with
  | [b0, b1, b2, b3, b4, b5] =>
    some
      { faulted := b0.getLsbD 7
        kind := if b0.getLsbD 6 then .ring else .track
        lineAxis := b0.extractLsb' 0 6
        direction := directionOf (b1.extractLsb' 4 2)
        epoch := b1.extractLsb' 0 4
        position := be32 b2 b3 b4 b5 }
  | _ => none

/-- The AXIS body of a report. -/
def axisBody (r : AxisReport) : List Byte :=
  [(bit r.faulted <<< 7) ||| (bit (decide (r.kind = .ring)) <<< 6) ||| r.lineAxis.zeroExtend 8,
   (directionCode r.direction <<< 4) ||| r.epoch.zeroExtend 8] ++ bytes32 r.position

/-- The TAG body of nine bytes; `none` for another length. -/
def tagOf (body : List Byte) : Option Tag :=
  match body with
  | [b0, b1, b2, b3, b4, b5, b6, b7, b8] =>
    some
      { origin := b0.extractLsb' 0 5
        hop := b0.extractLsb' 5 2
        sequence := be16 b1 b2
        tagClass := b3.extractLsb' 4 4
        epoch := b3.extractLsb' 0 4
        lineAxis := b4.extractLsb' 0 6
        position := be32 b5 b6 b7 b8 }
  | _ => none

/-- The TAG body of a tag. -/
def tagBody (t : Tag) : List Byte :=
  [(t.hop.zeroExtend 8 <<< 5) ||| t.origin.zeroExtend 8] ++ bytes16 t.sequence ++
  [(t.tagClass.zeroExtend 8 <<< 4) ||| t.epoch.zeroExtend 8, t.lineAxis.zeroExtend 8] ++ bytes32 t.position

/-- The code of a result (section 8.10). -/
def Result.code (r : Result) : Byte :=
  match r with
  | .ok => 0 | .badParam => 1 | .badState => 2 | .noRoom => 3 | .notPermitted => 4 | .unknownCommand => 5

/-- The RSP body of a response (R153, R174): with the result stand the low five bits of the code byte. Bits 7 to 5 of byte 0, to
which section 8.10 gives no content, are sent as 0 (DESIGN CHOICE, log entry 21). -/
def responseBody (r : Response) : List Byte :=
  [r.requester.zeroExtend 8, r.tid, (r.result.code <<< 5) ||| (r.code.extractLsb' 0 5).zeroExtend 8] ++ r.data

/-- A transmit queue item as it stands in a frame. -/
def TxItem.bytes (i : TxItem) : List Byte :=
  match i with
  | .tag t => itemBytes 2 (tagBody t)
  | .rsp r => itemBytes 4 (responseBody r)

/-- The NOTE body: one pair of kind and count for each kind carried (R148). -/
def noteBody (l : List (NoticeKind × Nat)) : List Byte :=
  l.flatMap fun p => [BitVec.ofNat 8 p.1.code.val, BitVec.ofNat 8 p.2]

/-! ### Commands (R153, R177) -/

/-- A command as its code and parameters give it. -/
inductive Cmd where
  | readStatus (page handle : Byte)
  | readQueue (handle index : Byte)
  | trimCam (ring entry : Byte) (position : BitVec 32)
  | trimRule (rule : Byte) (offset : BitVec 32)
  | trimWindow (window : Byte) (lower upper : BitVec 32)
  | armRule (index arm start : Byte)
  | armRing (index arm start : Byte)
  | setOrigin (handle : Byte) (value : BitVec 32)
  | armIndex (handle : Byte) (value : BitVec 32)
  | armIndexCancel (handle : Byte)
  | injectEntry (handle : Byte) (due : BitVec 32) (sequence : BitVec 16) (tagClass : BitVec 4) (forward : Bool)
      (action : Option Action)
  | clearQueue (handle : Byte)
  | clearCounts
  | pulseOutput (line : Byte) (width : BitVec 16)
  | restart
  /-- A known code whose parameter bytes are fewer than its list, or whose selector or mode is none of the values taken. -/
  | unfit (code : Byte)
  /-- A code other than 01h to 0Dh. -/
  | unknown (code : Byte)
  deriving DecidableEq, Repr

/-- The command code byte of a command (section 8.10). -/
def Cmd.code (c : Cmd) : Byte :=
  match c with
  | .readStatus _ _ => 0x01
  | .readQueue _ _ => 0x02
  | .trimCam _ _ _ => 0x03
  | .trimRule _ _ => 0x04
  | .trimWindow _ _ _ => 0x05
  | .armRule _ _ _ => 0x06
  | .armRing _ _ _ => 0x06
  | .setOrigin _ _ => 0x07
  | .armIndex _ _ => 0x08
  | .armIndexCancel _ => 0x08
  | .injectEntry _ _ _ _ _ _ => 0x09
  | .clearQueue _ => 0x0A
  | .clearCounts => 0x0B
  | .pulseOutput _ _ => 0x0C
  | .restart => 0x0D
  | .unfit code => code
  | .unknown code => code

/-- The parameter bytes of READ_STATUS. -/
def readStatusOf (p : List Byte) : Cmd :=
  match p with
  | page :: handle :: _ => .readStatus page handle
  | _ => .unfit 0x01

/-- The parameter bytes of READ_QUEUE. -/
def readQueueOf (p : List Byte) : Cmd :=
  match p with
  | handle :: index :: _ => .readQueue handle index
  | _ => .unfit 0x02

/-- The parameter bytes of TRIM_CAM. -/
def trimCamOf (p : List Byte) : Cmd :=
  match p with
  | ring :: entry :: b0 :: b1 :: b2 :: b3 :: _ => .trimCam ring entry (be32 b0 b1 b2 b3)
  | _ => .unfit 0x03

/-- The parameter bytes of TRIM_RULE. -/
def trimRuleOf (p : List Byte) : Cmd :=
  match p with
  | rule :: b0 :: b1 :: b2 :: b3 :: _ => .trimRule rule (be32 b0 b1 b2 b3)
  | _ => .unfit 0x04

/-- The parameter bytes of TRIM_WINDOW. -/
def trimWindowOf (p : List Byte) : Cmd :=
  match p with
  | window :: b0 :: b1 :: b2 :: b3 :: c0 :: c1 :: c2 :: c3 :: _ =>
    .trimWindow window (be32 b0 b1 b2 b3) (be32 c0 c1 c2 c3)
  | _ => .unfit 0x05

/-- The parameter bytes of ARM: selector 0 rule, 1 ring. -/
def armOf (p : List Byte) : Cmd :=
  match p with
  | selector :: index :: arm :: start :: _ =>
    if selector = 0 then .armRule index arm start
    else if selector = 1 then .armRing index arm start
    else .unfit 0x06
  | _ => .unfit 0x06

/-- The parameter bytes of SET_ORIGIN. -/
def setOriginOf (p : List Byte) : Cmd :=
  match p with
  | handle :: b0 :: b1 :: b2 :: b3 :: _ => .setOrigin handle (be32 b0 b1 b2 b3)
  | _ => .unfit 0x07

/-- The parameter bytes of ARM_INDEX: mode 0 arm, 1 cancel; the value of a cancel must be present but is not read. -/
def armIndexOf (p : List Byte) : Cmd :=
  match p with
  | handle :: mode :: b0 :: b1 :: b2 :: b3 :: _ =>
    if mode = 0 then .armIndex handle (be32 b0 b1 b2 b3)
    else if mode = 1 then .armIndexCancel handle
    else .unfit 0x08
  | _ => .unfit 0x08

/-- The parameter bytes of INJECT_ENTRY. -/
def injectEntryOf (p : List Byte) : Cmd :=
  match p with
  | handle :: b0 :: b1 :: b2 :: b3 :: q0 :: q1 :: c :: a0 :: a1 :: a2 :: _ =>
    .injectEntry handle (be32 b0 b1 b2 b3) (be16 q0 q1) (c.extractLsb' 0 4) (c.getLsbD 7) (actionOf a0 a1 a2)
  | _ => .unfit 0x09

/-- The parameter bytes of CLEAR_QUEUE. -/
def clearQueueOf (p : List Byte) : Cmd :=
  match p with
  | handle :: _ => .clearQueue handle
  | _ => .unfit 0x0A

/-- The parameter bytes of PULSE_OUTPUT. -/
def pulseOutputOf (p : List Byte) : Cmd :=
  match p with
  | line :: b0 :: b1 :: _ => .pulseOutput line (be16 b0 b1)
  | _ => .unfit 0x0C

/-- The command a code and its parameter bytes give; bytes beyond a command's list are not read (R153). -/
def cmdOf (code : Byte) (p : List Byte) : Cmd :=
  match code.toNat with
  | 1 => readStatusOf p
  | 2 => readQueueOf p
  | 3 => trimCamOf p
  | 4 => trimRuleOf p
  | 5 => trimWindowOf p
  | 6 => armOf p
  | 7 => setOriginOf p
  | 8 => armIndexOf p
  | 9 => injectEntryOf p
  | 10 => clearQueueOf p
  | 11 => .clearCounts
  | 12 => pulseOutputOf p
  | 13 => .restart
  | _ => .unknown code

/-- The content of a CMD item (section 8.10). -/
structure CmdItem where
  target : Station
  tid : Byte
  cmd : Cmd
  deriving DecidableEq, Repr

/-- The CMD body of 3 to 15 bytes; `none` for a shorter one (an item's body never has more than 15). -/
def cmdItemOf (body : List Byte) : Option CmdItem :=
  match body with
  | b0 :: tid :: code :: p => some ⟨b0.extractLsb' 0 5, tid, cmdOf code p⟩
  | _ => none

/-! ### Frames (R138, R141) -/

/-- The bytes of a frame: lead byte, three header bytes, body, CRC over header and body. -/
def frameBytes (h1 : Byte) (count : Nat) (body : List Byte) : List Byte :=
  let covered := [h1, BitVec.ofNat 8 count, BitVec.ofNat 8 body.length] ++ body
  0xC3#8 :: covered ++ bytes16 (crc16 covered)

/-- Header byte 1: bit 7 FAULT, bit 6 HOLD, bit 5 CFG_OK, source. -/
def headerByte (fault hold cfgOk : Bool) (source : Station) : Byte :=
  (bit fault <<< 7) ||| (bit hold <<< 6) ||| (bit cfgOk <<< 5) ||| source.zeroExtend 8

/-- What the station reads of a valid frame: CFG_OK and FAULT of the header are not stored by any block (R157). -/
structure Frame where
  source : Station
  hold : Bool
  items : List Item
  deriving DecidableEq, Repr

/-- A frame that ended by its length is valid when it passes the checks of R141; `none` is corrupt. -/
def judge (bytes : List Byte) : Option Frame :=
  match bytes with
  | lead :: h1 :: h2 :: h3 :: rest =>
    let len := h3.toNat
    let body := rest.take len
    if lead = 0xC3#8 ∧ h2.toNat ≤ 8 ∧ len ≤ 120 ∧ rest.length = len + 2 ∧
        rest.drop len = bytes16 (crc16 (h1 :: h2 :: h3 :: body)) then
      (walkItems h2.toNat body).map fun items => ⟨h1.extractLsb' 0 5, h1.getLsbD 6, items⟩
    else none
  | _ => none

/-- How many bytes a frame that begins so has when it is delimited by its length, 4 + L + 2 (R120); none when it is delimited by
idle, or has not come to its third header byte. -/
def frameLength (bytes : List Byte) : Option Nat :=
  match bytes with
  | lead :: _ :: _ :: h3 :: _ => if lead = 0xC3#8 ∧ h3.toNat ≤ 120 then some (h3.toNat + 6) else none
  | _ => none

/-- The bytes read without idle between them, cut at the end of the frame they begin with (R120): the frame, and what follows it. -/
def cutFrame (bytes : List Byte) : List Byte × List Byte :=
  match frameLength bytes with
  | some n => (bytes.take n, bytes.drop n)
  | none => (bytes, [])

/-- The bits of a byte on the wire: start bit 0, bits 0 to 7, stop bit 1 (R117). -/
def wireByte (b : Byte) : List Bool := false :: ((List.range 8).map fun k => b.getLsbD k) ++ [true]

/-- The bits of a frame on the wire, back to back (R117). -/
def wireBits (l : List Byte) : List Bool := l.flatMap wireByte

end Sys2Proof.Machine
end

