-- ==== Sys2Proof/Machine/Tags.lean ====
section
/-! DEFINITION. Tag rules and the paths of local and remote tags (chapter 3). -/

namespace Sys2Proof.Machine

/-- A LINE rule's filters admit the tag (R60): class set, origin filter, hop filter. -/
def RuleSettings.admits (set : RuleSettings) (t : Tag) : Bool :=
  set.classes.getLsbD t.tagClass.toNat &&
  (match set.origin with
    | none => true
    | some o => decide (o = t.origin)) &&
  (match set.hop with
    | none => true
    | some x => decide (x = t.hop))

/-- Rule `k` matches a tag from `src` (R60): a SENSOR rule its own sensor's tags, a LINE rule the remote tags it admits. -/
def Env.matches (env : Env) (k : Fin 8) (src : RuleSource) (t : Tag) : Bool :=
  let set := env.cfg.rules.get k
  (env.rules.get k).armed && decide (set.source = src) &&
  (match src with
    | .sensor _ => true
    | .line => set.admits t)

/-- A rule's gate is open (R61): it has none, or its window's flag is 1. -/
def Works.gateOpen (w : Works) (env : Env) (k : Fin 8) : Bool :=
  match (env.cfg.rules.get k).gate with
  | none => true
  | some g => (w.windows.get g).flag

/-- The entry rule `k` makes of a tag (R22, R62). -/
def Env.entryOf (env : Env) (k : Fin 8) (t : Tag) : Entry :=
  let set := env.cfg.rules.get k
  { origin := t.origin
    sequence := t.sequence
    source := .rule k
    tagClass := t.tagClass
    hop := t.hop
    epoch := t.epoch
    due := t.position + (env.rules.get k).offset
    action := set.action
    forward := set.forward
    stamp := 0 }

/-- One rule takes a tag that stands on handle `h` (R60 to R62). -/
def Works.ruleTakes (w : Works) (env : Env) (h : Handle) (src : RuleSource) (t : Tag) (k : Fin 8) : Works :=
  if env.matches k src t && w.gateOpen env k then (w.offer env h (env.entryOf k t)).2 else w

/-- The rules take a tag in rule index order, each offer decided before the next rule is taken (R53, R58, R62). -/
def Works.rulesTake (w : Works) (env : Env) (h : Handle) (src : RuleSource) (t : Tag) : Works :=
  (List.finRange 8).foldl (fun w k => w.ruleTakes env h src t k) w

/-- The handle a remote tag is mapped to (R56): the TRACK handle in use with its line axis id. -/
def Env.mapTag (env : Env) (id : BitVec 6) : Option Handle :=
  (List.finRange 8).find? fun h => env.cfg.isTrack h && decide (env.lineAxis h = some id)

/-- A remote tag taken by the station (R56 to R58): mapped, checked against the handle's epoch, offered to the LINE rules. -/
def Works.remoteTag (w : Works) (env : Env) (t : Tag) : Works :=
  match env.mapTag t.lineAxis with
  | none => w.raise env .unmapped
  | some h =>
    if t.epoch ≠ env.epoch h then w.raise env .epochDiscard
    else w.rulesTake env h .line t

/-- A local tag is published when its sensor's setting says so (R53, R54). -/
def Works.publish (w : Works) (env : Env) (k : Fin 4) (t : Tag) : Works :=
  if (env.cfg.sensors.get k).publish then w.offerTag env t else w

/-- The order of the two hands of a local tag can be seen: the sensor publishes, and a rule of the sensor forwards (a late fire
then offers a TAG item too). -/
def Env.handsMeet (env : Env) (k : Fin 4) (t : Tag) : Bool :=
  (env.cfg.sensors.get k).publish &&
  (List.finRange 8).any fun r => env.matches r (.sensor k) t && (env.cfg.rules.get r).forward

/-- A local tag is handed to the rules and to the transmit queue; either may take it first (R53, log entry 2). -/
def Works.localTag (w : Works) (env : Env) (h : Handle) (k : Fin 4) (t : Tag) : Works :=
  if env.handsMeet k t then
    if w.draw.1 % 2 = 0 then (w.draw.2.rulesTake env h (.sensor k) t).publish env k t
    else (w.draw.2.publish env k t).rulesTake env h (.sensor k) t
  else (w.rulesTake env h (.sensor k) t).publish env k t

end Sys2Proof.Machine
end

