-- ==== Sys2Proof/Machine/Commands.lean ====
section
/-! DEFINITION. Console commands (chapter 10): what each does, and how the command unit takes one. -/

namespace Sys2Proof.Machine

/-- What executing a command gives: the result, the response data and the state after it (R173). -/
structure Answer where
  result : Result
  data : List Byte
  state : State

/-- A result other than OK: no data, no effect (R173, R174). -/
def refuse (r : Result) (s : State) : Answer := ⟨r, [], s⟩

/-- OK with no data. -/
def accept (s : State) : Answer := ⟨.ok, [], s⟩

/-- The handle a byte names, 0 to 7 (R177). -/
def handleOf (b : Byte) : Option Handle := if h : b.toNat < 8 then some ⟨b.toNat, h⟩ else none

/-- The index 0 to n−1 a byte names (R177). -/
def indexOf (n : Nat) (b : Byte) : Option (Fin n) := if h : b.toNat < n then some ⟨b.toNat, h⟩ else none

/-- A value a RING axis can hold, 0 to M−1; any value on TRACK (R4). -/
def Geometry.admits (g : Geometry) (v : Pos) : Bool :=
  match g.kind with
  | .track => true
  | .ring => decide (v.toNat < g.modulus)

/-! ### READ_STATUS (R178, R179, R167) -/

/-- A count as one byte. -/
def byteOf (n : Nat) : Byte := BitVec.ofNat 8 n

/-- Page 0: the summary. Bits 7 to 4 of byte 2, to which R178 gives no content, are sent as 0 (DESIGN CHOICE, log entry 21). -/
def State.page0 (s : State) : List Byte :=
  [ byteOf (if s.valid then 0 else 1)
  , byteOf s.startup.failingCheck
  , bit (!s.run) ||| (bit s.causePin <<< 1) ||| (bit s.causeFault <<< 2) ||| (bit s.axisFault <<< 3)
  , byteOf s.works.entriesHeld
  , byteOf s.works.txQueue.length
  , byteOf s.works.responsesHeld
  , bit s.command.restartPending ] ++
  bytes16 s.nextSequence ++
  [byteOf s.works.notices.list.length]

/-- Page 1 byte 0: the axis state. -/
def State.axisCode (s : State) (h : Handle) : Byte :=
  match axisRef h with
  | .loc i => match (s.axes.get i).state with
    | .off => 0
    | .active => 1
    | .faulted => 2
  | .mir i => match (s.mirrors.get i).state with
    | .unseen => 3
    | .active => 1
    | .stale => 4
    | .remoteFault => 5

/-- The last direction a handle shows: of a mirror, that of its last report (R103). -/
def State.lastDirection (s : State) (h : Handle) : Option Direction :=
  match axisRef h with
  | .loc i => (s.axes.get i).lastDirection
  | .mir i => (s.mirrors.get i).lastDirection

/-- The index arm a handle shows: clear for a mirror (R178). -/
def State.armOf (s : State) (h : Handle) : Option (BitVec 32) :=
  match axisRef h with
  | .loc i => (s.axes.get i).arm
  | .mir _ => none

/-- The line axis id byte: FFh for an unused mirror (R178). -/
def State.lineAxisByte (s : State) (h : Handle) : Byte :=
  match s.env.lineAxis h with
  | none => 0xFF
  | some id => id.zeroExtend 8

/-- Page 1: one handle. Bit 6 of byte 1, to which section 8.10 gives no content, is sent as 0 (DESIGN CHOICE, log entry 21). -/
def State.page1 (s : State) (h : Handle) : List Byte :=
  [ s.axisCode h
  , (bit (decide ((s.cfg.geometry h).kind = .ring)) <<< 7) ||| (directionCode (s.lastDirection h) <<< 4) |||
      (s.env.epoch h).zeroExtend 8
  , s.lineAxisByte h ] ++
  bytes32 (s.env.position h) ++
  (match s.armOf h with
    | none => [0, 0, 0, 0, 0]
    | some v => 1 :: bytes32 v)

/-- A counter as two bytes. -/
def State.counterBytes (s : State) (k : Fin 19) : List Byte :=
  bytes16 (BitVec.ofNat 16 (s.works.notices.counters.get k))

/-- The mask of 32 bits whose bit n is `f n` (R167). -/
def maskOf (f : Fin 32 → Bool) : BitVec 32 :=
  (List.finRange 32).foldl (fun m n => if f n then m ||| (1#32 <<< n.val) else m) 0#32

/-- Page 6: the roster masks PRESENT, ABSENT and HOLD (R167). -/
def State.page6 (s : State) : List Byte :=
  bytes32 (maskOf fun n => (s.roster.get n).state = .present) ++
  bytes32 (maskOf fun n => (s.roster.get n).state = .absent) ++
  bytes32 (maskOf fun n => (s.roster.get n).hold)

/-- READ_STATUS (R178, R179): the handle is read for page 1 alone. -/
def State.readStatus (s : State) (page handle : Byte) : Answer :=
  match page.toNat with
  | 0 => ⟨.ok, s.page0, s⟩
  | 1 =>
    match handleOf handle with
    | some h => ⟨.ok, s.page1 h, s⟩
    | none => refuse .badParam s
  | 2 => ⟨.ok, [0, 1, 2, 3, 4, 5].flatMap s.counterBytes, s⟩
  | 3 => ⟨.ok, [6, 7, 8, 9, 10, 11].flatMap s.counterBytes, s⟩
  | 4 => ⟨.ok, [12, 13, 14, 15, 16, 17].flatMap s.counterBytes, s⟩
  | 5 => ⟨.ok, s.counterBytes commandsExecuted, s⟩
  | 6 => ⟨.ok, s.page6, s⟩
  | _ => refuse .badParam s

/-! ### The trigger queue's commands (R39 to R41) -/

/-- The source byte of a READ_QUEUE answer: 0 to 7 RULE k, 8 INJECTED. -/
def EntrySource.code (x : EntrySource) : Byte :=
  match x with
  | .rule k => byteOf k.val
  | .injected => 8

/-- The twelve bytes of an entry (section 8.10). -/
def Entry.bytes (e : Entry) : List Byte :=
  [(bit e.forward <<< 7) ||| (e.hop.zeroExtend 8 <<< 5) ||| e.origin.zeroExtend 8] ++
  bytes16 e.sequence ++
  [(e.tagClass.zeroExtend 8 <<< 4) ||| e.epoch.zeroExtend 8, e.source.code] ++
  bytes32 e.due ++
  actionBytes e.action

/-- READ_QUEUE (R41). -/
def State.readQueue (s : State) (handle index : Byte) : Answer :=
  match handleOf handle with
  | none => refuse .badParam s
  | some h =>
    match (s.works.queues.get h)[index.toNat]? with
    | some e => ⟨.ok, e.bytes, s⟩
    | none => refuse .badParam s

/-- The action INJECT_ENTRY may carry (R39, R177): absent, or on an ACTION line, a pulse with a width. -/
def Settings.admitsAction (cfg : Settings) (a : Option Action) : Bool :=
  match a with
  | none => true
  | some a => decide ((cfg.outputs.get a.line).mode = .action) && !emptyPulse a.operation

/-- The handle is a TRACK axis for INJECT_ENTRY (R39): a local axis of kind TRACK in any mode, or a mirror subscribed with kind
TRACK. A local axis in mode OFF is refused by the queue (R27 step 1). -/
def Settings.injectable (cfg : Settings) (h : Handle) : Bool :=
  match axisRef h with
  | .loc i => (cfg.axes.get i).kind = .track
  | .mir i => (cfg.mirrors.get i).lineAxis.isSome && decide ((cfg.mirrors.get i).kind = .track)

/-- The result INJECT_ENTRY has from the queue's outcome (R39). -/
def OfferOutcome.result (o : OfferOutcome) : Result :=
  match o with
  | .inserted => .ok
  | .lateFired => .ok
  | .queueFull => .noRoom
  | .lateDrop => .badState
  | .unmapped => .badState
  | .epochDiscard => .badState
  | .duplicate => .badParam

/-- The entry INJECT_ENTRY offers (R22, R39). -/
def State.injectedEntry (s : State) (requester : Station) (h : Handle) (due : BitVec 32) (sequence : BitVec 16)
    (tagClass : BitVec 4) (forward : Bool) (action : Option Action) : Entry where
  origin := requester
  sequence := sequence
  source := .injected
  tagClass := tagClass
  hop := 0
  epoch := s.env.epoch h
  due := due
  action := action
  forward := forward
  stamp := 0

/-- INJECT_ENTRY (R39). -/
def State.injectEntry (s : State) (requester : Station) (handle : Byte) (due : BitVec 32) (sequence : BitVec 16)
    (tagClass : BitVec 4) (forward : Bool) (action : Option Action) : Answer :=
  match handleOf handle with
  | none => refuse .badParam s
  | some h =>
    if s.cfg.injectable h ∧ s.cfg.admitsAction action then
      let r := s.works.offer s.env h (s.injectedEntry requester h due sequence tagClass forward action)
      ⟨r.1.result, [], s.withWorks r.2⟩
    else refuse .badParam s

/-- CLEAR_QUEUE (R40): the number of entries removed is the answer. -/
def State.clearQueue (s : State) (handle : Byte) : Answer :=
  if handle = 0xFF then ⟨.ok, [byteOf s.works.entriesHeld], s.withWorks s.works.clearHandles⟩
  else
    match handleOf handle with
    | none => refuse .badParam s
    | some h => ⟨.ok, [byteOf (s.works.queues.get h).length], s.withWorks (s.works.clearHandle h)⟩

/-! ### Trims and arms (R63, R64, R77, R78, R82) -/

/-- An offset in −2^30 to +2^30 (R3, R63). -/
def offsetInRange (o : BitVec 32) : Bool := decide (-1073741824 ≤ o.toInt) && decide (o.toInt ≤ 1073741824)

/-- TRIM_RULE (R63). -/
def State.trimRule (s : State) (rule : Byte) (offset : BitVec 32) : Answer :=
  match indexOf 8 rule with
  | none => refuse .badParam s
  | some k =>
    if offsetInRange offset then accept (s.withRule k { s.rules.get k with offset := offset })
    else refuse .badParam s

/-- The arm byte: 1 arm, 0 disarm (R177). -/
def armByte (b : Byte) : Option Bool := if b = 1 then some true else if b = 0 then some false else none

/-- ARM with selector rule (R64): the start entry is not used. -/
def State.armRule (s : State) (index arm : Byte) : Answer :=
  match armByte arm, indexOf 8 index with
  | some a, some k => accept (s.withRule k { s.rules.get k with armed := a })
  | _, _ => refuse .badParam s

/-- `s` with ring `r`'s run-time state replaced. -/
def State.withRing (s : State) (r : Fin 4) (x : Ring) : State :=
  s.withWorks { s.works with rings := s.works.rings.put r x }

/-- A ring in use (R68). -/
def Settings.ringInUse (cfg : Settings) (r : Fin 4) : Bool := (cfg.rings.get r).handle.isSome

/-- ARM with selector ring (R77): arming sets the pointer to the start entry, disarming keeps it. -/
def State.armRing (s : State) (index arm start : Byte) : Answer :=
  match armByte arm, indexOf 4 index with
  | some a, some r =>
    let x := s.works.rings.get r
    if s.cfg.ringInUse r then
      if a then
        if start.toNat < (s.cfg.rings.get r).entries.length then
          accept (s.withRing r { x with armed := true, pointer := start.toNat })
        else refuse .badParam s
      else accept (s.withRing r { x with armed := false })
    else refuse .badParam s
  | _, _ => refuse .badParam s

/-- TRIM_CAM (R78): the position of one entry of a ring in use. -/
def State.trimCam (s : State) (ring entry : Byte) (position : BitVec 32) : Answer :=
  match indexOf 4 ring with
  | none => refuse .badParam s
  | some r =>
    match (s.cfg.rings.get r).handle with
    | none => refuse .badParam s
    | some h =>
      let x := s.works.rings.get r
      if entry.toNat < (s.cfg.rings.get r).entries.length ∧ (s.cfg.geometry h).admits position then
        accept (s.withRing r { x with positions := x.positions.set entry.toNat position })
      else refuse .badParam s

/-- Bounds a window may have on an axis (R79, R82). -/
def Geometry.admitsBounds (g : Geometry) (lower upper : Pos) : Bool :=
  match g.kind with
  | .track => decide (0 ≤ signedDifference upper lower)
  | .ring => decide (lower.toNat < g.modulus) && decide (upper.toNat < g.modulus)

/-- TRIM_WINDOW (R82): both bounds are set and the flag recomputed at once. -/
def State.trimWindow (s : State) (window : Byte) (lower upper : BitVec 32) : Answer :=
  match indexOf 8 window with
  | none => refuse .badParam s
  | some k =>
    match (s.cfg.windows.get k).handle with
    | none => refuse .badParam s
    | some h =>
      if (s.cfg.geometry h).admitsBounds lower upper then
        let w := { s.works with
          windows := s.works.windows.put k { s.works.windows.get k with lower := lower, upper := upper } }
        accept (s.withWorks (w.recompute s.env k))
      else refuse .badParam s

/-! ### Origins (R16, R177) -/

/-- A local handle that takes origin commands: 0 or 1, else BAD_PARAM; mode OFF gives BAD_STATE before the value is checked. -/
def State.onLocalAxis (s : State) (handle : Byte) (f : Fin 2 → Answer) : Answer :=
  match indexOf 2 handle with
  | none => refuse .badParam s
  | some i => if (s.cfg.axes.get i).mode = .off then refuse .badState s else f i

/-- SET_ORIGIN (R16). -/
def State.setOrigin (s : State) (handle : Byte) (value : BitVec 32) : Answer :=
  s.onLocalAxis handle fun i =>
    if (s.cfg.geometry (localHandle i)).admits value then accept (s.originEvent i value)
    else refuse .badParam s

/-- ARM_INDEX with mode arm (R16). -/
def State.armIndex (s : State) (handle : Byte) (value : BitVec 32) : Answer :=
  s.onLocalAxis handle fun i =>
    if (s.cfg.geometry (localHandle i)).admits value then
      accept (s.withAxis i { s.axes.get i with arm := some value })
    else refuse .badParam s

/-- ARM_INDEX with mode cancel (R16). -/
def State.cancelIndex (s : State) (handle : Byte) : Answer :=
  s.onLocalAxis handle fun i => accept (s.withAxis i { s.axes.get i with arm := none })

/-! ### The rest -/

/-- CLEAR_COUNTS (R180, R198): pending records stay. -/
def State.clearCounts (s : State) : Answer :=
  accept (s.withWorks { s.works with notices := { s.works.notices with counters := Bank.fill 0 } })

/-- PULSE_OUTPUT (R98): the line's own checks, parameters first. -/
def State.pulseOutput (s : State) (line : Byte) (width : BitVec 16) : Answer :=
  match indexOf 8 line with
  | none => refuse .badParam s
  | some q =>
    if width = 0 ∨ (s.cfg.outputs.get q).mode = .window then refuse .badParam s
    else if (s.works.outputs.get q).condition ≠ .normal then refuse .badState s
    else accept (s.withWorks (s.works.act s.env none ⟨q, .pulseTime width⟩))

/-- RESTART (R181): the restart-pending flag is set. -/
def State.restart (s : State) : Answer := accept (s.withCommand { s.command with restartPending := true })

/-- A command's own checks and effect (R173 order 5, R177). -/
def State.perform (s : State) (requester : Station) (c : Cmd) : Answer :=
  match c with
  | .readStatus page handle => s.readStatus page handle
  | .readQueue handle index => s.readQueue handle index
  | .trimCam ring entry position => s.trimCam ring entry position
  | .trimRule rule offset => s.trimRule rule offset
  | .trimWindow window lower upper => s.trimWindow window lower upper
  | .armRule index arm _ => s.armRule index arm
  | .armRing index arm start => s.armRing index arm start
  | .setOrigin handle value => s.setOrigin handle value
  | .armIndex handle value => s.armIndex handle value
  | .armIndexCancel handle => s.cancelIndex handle
  | .injectEntry handle due sequence tagClass forward action =>
    s.injectEntry requester handle due sequence tagClass forward action
  | .clearQueue handle => s.clearQueue handle
  | .clearCounts => s.clearCounts
  | .pulseOutput line width => s.pulseOutput line width
  | .restart => s.restart
  | .unfit _ => refuse .badParam s
  | .unknown _ => refuse .unknownCommand s

/-- A command that is READ_STATUS, complete or not (R173 order 3). -/
def Cmd.isReadStatus (c : Cmd) : Bool := c.code = 0x01

/-- A command whose code is not 01h to 0Dh (R173 order 2). -/
def Cmd.isUnknown (c : Cmd) : Bool :=
  match c with
  | .unknown _ => true
  | _ => false

/-- The requester may command the station (R173 order 1, R176): anyone while no console set is in force. -/
def State.permits (s : State) (requester : Station) : Bool :=
  !s.valid || s.cfg.console.getLsbD requester.toNat

/-- Executing a command: the first result of R173 that applies. -/
def State.execute (s : State) (requester : Station) (c : Cmd) : Answer :=
  if !s.permits requester then refuse .notPermitted s
  else if c.isUnknown then refuse .unknownCommand s
  else if !s.valid ∧ !c.isReadStatus then refuse .badState s
  else s.perform requester c

/-- The result is one that COMMANDS_EXECUTED counts (R173, R197). -/
def Result.counted (r : Result) : Bool :=
  match r with
  | .ok => true
  | .badParam => true
  | .badState => true
  | .noRoom => true
  | .notPermitted => false
  | .unknownCommand => false

/-- The response to an executed command (R174). -/
def responseTo (requester : Station) (tid : Byte) (c : Cmd) (a : Answer) : Response where
  requester := requester
  tid := tid
  code := c.code
  result := a.result
  data := a.data

/-- COMMANDS_EXECUTED advances for a result that counts (R173). -/
def Works.countResult (w : Works) (r : Result) : Works := if r.counted then w.count commandsExecuted else w

/-- The response is stored in the requester's record and queued (R174). -/
def Answer.deliver (a : Answer) (requester : Station) (tid : Byte) (c : Cmd) : State :=
  let r := responseTo requester tid c a
  let t := a.state
  (t.withCommand
      { t.command with cache := t.command.cache.put (stationIndex requester) (some ⟨tid, r⟩) }).withWorks
    ((t.works.countResult a.result).queueResponse r)

/-- The requester's record holds the transaction id (R171 step 2). -/
def State.cached (s : State) (requester : Station) (tid : Byte) : Option Response :=
  match s.command.cache.get (stationIndex requester) with
  | none => none
  | some x => if x.tid = tid then some x.response else none

/-- The command unit takes a command (R169, R171): in ROTATING alone; dropped when no response place is free, answered from the
cache when the transaction id is held, executed otherwise. -/
def State.takeCommand (s : State) (requester : Station) (tid : Byte) (c : Cmd) : State :=
  if s.bus.station ≠ .rotating then s
  else if 4 ≤ s.works.responsesHeld then s.raise .cmdDropped
  else
    match s.cached requester tid with
    | some r => s.withWorks (s.works.queueResponse r)
    | none => (s.execute requester c).deliver requester tid c

/-! ### The rows: a CMD item reaches the command unit (log entry 6) -/

/-- The meaning of READ_STATUS. -/
def execReadStatus (requester : Station) (tid page handle : Byte) (s : State) : Host.Outcome State Fault Refusal :=
  .next (s.takeCommand requester tid (.readStatus page handle))

/-- The meaning of READ_QUEUE. -/
def execReadQueue (requester : Station) (tid handle index : Byte) (s : State) : Host.Outcome State Fault Refusal :=
  .next (s.takeCommand requester tid (.readQueue handle index))

/-- The meaning of TRIM_CAM. -/
def execTrimCam (requester : Station) (tid ring entry : Byte) (position : BitVec 32) (s : State) :
    Host.Outcome State Fault Refusal :=
  .next (s.takeCommand requester tid (.trimCam ring entry position))

/-- The meaning of TRIM_RULE. -/
def execTrimRule (requester : Station) (tid rule : Byte) (offset : BitVec 32) (s : State) :
    Host.Outcome State Fault Refusal :=
  .next (s.takeCommand requester tid (.trimRule rule offset))

/-- The meaning of TRIM_WINDOW. -/
def execTrimWindow (requester : Station) (tid window : Byte) (lower upper : BitVec 32) (s : State) :
    Host.Outcome State Fault Refusal :=
  .next (s.takeCommand requester tid (.trimWindow window lower upper))

/-- The meaning of ARM with selector rule. -/
def execArmRule (requester : Station) (tid index arm start : Byte) (s : State) : Host.Outcome State Fault Refusal :=
  .next (s.takeCommand requester tid (.armRule index arm start))

/-- The meaning of ARM with selector ring. -/
def execArmRing (requester : Station) (tid index arm start : Byte) (s : State) : Host.Outcome State Fault Refusal :=
  .next (s.takeCommand requester tid (.armRing index arm start))

/-- The meaning of SET_ORIGIN. -/
def execSetOrigin (requester : Station) (tid handle : Byte) (value : BitVec 32) (s : State) :
    Host.Outcome State Fault Refusal :=
  .next (s.takeCommand requester tid (.setOrigin handle value))

/-- The meaning of ARM_INDEX with mode arm. -/
def execArmIndex (requester : Station) (tid handle : Byte) (value : BitVec 32) (s : State) :
    Host.Outcome State Fault Refusal :=
  .next (s.takeCommand requester tid (.armIndex handle value))

/-- The meaning of ARM_INDEX with mode cancel. -/
def execArmIndexCancel (requester : Station) (tid handle : Byte) (s : State) : Host.Outcome State Fault Refusal :=
  .next (s.takeCommand requester tid (.armIndexCancel handle))

/-- The meaning of INJECT_ENTRY. -/
def execInjectEntry (requester : Station) (tid handle : Byte) (due : BitVec 32) (sequence : BitVec 16)
    (tagClass : BitVec 4) (forward : Bool) (action : Option Action) (s : State) : Host.Outcome State Fault Refusal :=
  .next (s.takeCommand requester tid (.injectEntry handle due sequence tagClass forward action))

/-- The meaning of CLEAR_QUEUE. -/
def execClearQueue (requester : Station) (tid handle : Byte) (s : State) : Host.Outcome State Fault Refusal :=
  .next (s.takeCommand requester tid (.clearQueue handle))

/-- The meaning of CLEAR_COUNTS. -/
def execClearCounts (requester : Station) (tid : Byte) (s : State) : Host.Outcome State Fault Refusal :=
  .next (s.takeCommand requester tid .clearCounts)

/-- The meaning of PULSE_OUTPUT. -/
def execPulseOutput (requester : Station) (tid line : Byte) (width : BitVec 16) (s : State) :
    Host.Outcome State Fault Refusal :=
  .next (s.takeCommand requester tid (.pulseOutput line width))

/-- The meaning of RESTART. -/
def execRestart (requester : Station) (tid : Byte) (s : State) : Host.Outcome State Fault Refusal :=
  .next (s.takeCommand requester tid .restart)

/-- The meaning of UNKNOWN_COMMAND: a CMD item with this code byte and no parameters. -/
def execUnknownCommand (requester : Station) (tid code : Byte) (s : State) : Host.Outcome State Fault Refusal :=
  .next (s.takeCommand requester tid (cmdOf code []))

end Sys2Proof.Machine
end

