-- ==== Sys2Proof/Machine/Mirrors.lean ====
section
/-! DEFINITION. The axis mirror (chapter 6). -/

namespace Sys2Proof.Machine

/-- The publishing station of a line axis id: the id divided by 2 (R102). -/
def publisher (id : BitVec 6) : Station := id.extractLsb' 1 5

/-- The station that publishes mirror `i`'s axis. -/
def Settings.publishes (cfg : Settings) (n : Station) (i : Fin 6) : Bool :=
  match (cfg.mirrors.get i).lineAxis with
  | none => false
  | some id => decide (publisher id = n)

/-- The mirror that subscribes a line axis id (R104). -/
def Settings.subscriber (cfg : Settings) (id : BitVec 6) : Option (Fin 6) :=
  (List.finRange 6).find? fun i => decide ((cfg.mirrors.get i).lineAxis = some id)

/-- A mirror takes an ACTIVE report's position and direction (R105). -/
def Mirror.takes (m : Mirror) (r : AxisReport) : Mirror :=
  { m with state := .active, position := r.position, lastDirection := r.direction }

/-- A report is applied to mirror `i` (R105 to R110). -/
def State.applyReport (s : State) (i : Fin 6) (r : AxisReport) : State :=
  let m := s.mirrors.get i
  let h := mirrorHandle i
  if r.faulted then
    -- R110
    let s' := s.withMirror i { m with state := .remoteFault }
    if m.state = .active then s'.stopsBeingActive h else s'
  else if r.epoch ≠ m.epoch then
    -- R109
    (s.withMirror i { (m.takes r) with epoch := r.epoch }).epochChange h
  else
    let s' := s.withMirror i (m.takes r)
    match m.state with
    | .unseen => s'.becomesActive h -- R106
    | .active => -- R107
      match moveOf (s.cfg.geometry h) m.position r.position with
      | none => s'
      | some mv =>
        if mv.distance ≤ s.cfg.jumpLimit then s'.positionEvent h mv
        else (s'.raise .mirrorJump).silentPassage h mv
    | _ => -- STALE or REMOTE_FAULT: R108
      match moveOf (s.cfg.geometry h) m.position r.position with
      | none => s'.becomesActive h
      | some mv => (s'.becomesActive h).silentPassage h mv

/-- An ACTIVE mirror goes STALE (R111): MIRROR_STALE is raised and the axis state change delivered. -/
def State.staleMirror (s : State) (i : Fin 6) : State :=
  let m := s.mirrors.get i
  if m.state = .active then
    ((s.withMirror i { m with state := .stale }).raise .mirrorStale).stopsBeingActive (mirrorHandle i)
  else s

/-- Every ACTIVE mirror that station `n` publishes goes STALE, but for those in `keep` (R111, R112). -/
def State.stalePublished (s : State) (n : Station) (keep : List (Fin 6)) : State :=
  (List.finRange 6).foldl
    (fun s i => if s.cfg.publishes n i && !keep.contains i then s.staleMirror i else s) s

/-- An AXIS item of a frame from `source` is checked and applied (R104). It answers with the mirror that took a report, if
any. -/
def State.applyAxisItem (s : State) (source : Station) (r : AxisReport) : Option (Fin 6) × State :=
  if !s.valid then (none, s)
  else if publisher r.lineAxis ≠ source then (none, s.raise .badFrame)
  else
    match s.cfg.subscriber r.lineAxis with
    | none => (none, s)
    | some i =>
      let set := s.cfg.mirrors.get i
      if r.kind ≠ set.kind then (none, s.raise .badFrame)
      else if r.kind = .ring ∧ set.modulus ≤ r.position.toNat then (none, s.raise .badFrame)
      else (some i, s.applyReport i r)

/-- A warm restart sets mirror `i` UNSEEN; one that was ACTIVE delivers an axis state change (R116). -/
def State.restartMirror (s : State) (i : Fin 6) : State :=
  let m := s.mirrors.get i
  let s' := s.withMirror i Mirror.unseen
  if m.state = .active then s'.stopsBeingActive (mirrorHandle i) else s'

end Sys2Proof.Machine
end

