-- ==== Sys2Proof/Machine/Roster.lean ====
section
/-! DEFINITION. The roster: hearing and missing (section 9.2). -/

namespace Sys2Proof.Machine

/-- Station `j` lies strictly between `a` and `k` in the order of the rotation (R158). -/
def strictlyBetween (a k j : Station) : Bool :=
  decide (1 ≤ (j - a).toNat) && decide ((j - a).toNat ≤ (k - a - 1).toNat)

/-- A miss of station `j` (R158, R159): its count rises and its ACTIVE mirrors go STALE; at the absent limit the entry goes
ABSENT, STATION_LOST is raised and the line state derived anew. Entries not PRESENT and the own entry are passed over. -/
def State.miss (s : State) (j : Station) : State :=
  let e := s.roster.get (stationIndex j)
  if e.state = .present ∧ j ≠ s.bus.number then
    let n := e.missed + 1
    if n < s.cfg.absentLimit then (s.withEntry (stationIndex j) { e with missed := n }).stalePublished j []
    else
      (((s.withEntry (stationIndex j) { e with state := .absent, missed := s.cfg.absentLimit }).raise
        .stationLost).stalePublished j []).refreshLines
  else s

/-- The misses that the pair (a, k) reveals, in the order of the rotation (R158); none when the anchor is unknown. -/
def State.countMisses (s : State) (a : Option Station) (k : Station) : State :=
  match a with
  | none => s
  | some a =>
    (List.range 31).foldl
      (fun s d =>
        let j := a + BitVec.ofNat 5 (d + 1)
        if strictlyBetween a k j then s.miss j else s) s

/-- The header of an accepted frame is applied (R157): misses first, then the source is PRESENT with its HOLD flag, and the line
state is derived anew. -/
def State.applyHeader (s : State) (anchor : Option Station) (source : Station) (hold : Bool) : State :=
  ((s.countMisses anchor source).withEntry (stationIndex source) ⟨.present, 0, hold⟩).refreshLines

/-- The station state changes, and the own roster entry with it (R160): PRESENT in ROTATING, UNKNOWN in every other. -/
def State.enterStation (s : State) (st : StationState) : State :=
  let own := stationIndex s.bus.number
  (s.withBus { s.bus with station := st }).withEntry own
    { s.roster.get own with state := if st = .rotating then .present else .unknown, missed := 0 }

end Sys2Proof.Machine
end

