-- ==== Sys2Proof/Machine/Frames.lean ====
section
/-! DEFINITION. Frames: assembly of an own frame (section 8.5) and the application of an accepted one (section 8.3). -/

namespace Sys2Proof.Machine

/-! ### Assembly (R147, R148, R138) -/

/-- The AXIS item of local axis `i` in an own frame, if it is published and ACTIVE or FAULTED (R19). -/
def State.axisItem (s : State) (i : Fin 2) : Option (List Byte) :=
  let set := s.cfg.axes.get i
  let x := s.axes.get i
  if set.publish ∧ x.state ≠ .off then
    some (itemBytes 1 (axisBody
      { faulted := x.state = .faulted
        kind := set.kind
        lineAxis := ownLineAxis s.bus.number i
        direction := x.lastDirection
        epoch := x.epoch
        position := x.position }))
  else none

/-- Part 1: the AXIS items, handle 0 before handle 1; none while the configuration is invalid. -/
def State.axisItems (s : State) : List (List Byte) :=
  if s.valid then (s.axisItem 0).toList ++ (s.axisItem 1).toList else []

/-- The kinds and counts the NOTE item carries: the pending kinds of lowest code, up to 7 (R148). -/
def State.noteList (s : State) : List (NoticeKind × Nat) := s.works.notices.list.take 7

/-- Part 2: one NOTE item when any notice is pending. -/
def State.noteItems (s : State) : List (List Byte) :=
  match s.noteList with
  | [] => []
  | l => [itemBytes 5 (noteBody l)]

/-- Part 3: how many items are taken from the head of the queue, each while the frame then holds at most 8 items and a body of
at most 120 bytes. -/
def takeItems (count size : Nat) (l : List TxItem) : Nat :=
  match l with
  | [] => 0
  | i :: rest =>
    if count + 1 ≤ 8 ∧ size + i.bytes.length ≤ 120 then takeItems (count + 1) (size + i.bytes.length) rest + 1
    else 0

/-- The own frame built at this moment (R147). -/
def State.assemble (s : State) : Flight :=
  let lead := s.axisItems ++ s.noteItems
  let n := takeItems lead.length lead.flatten.length s.works.txQueue
  let items := lead ++ (s.works.txQueue.take n).map TxItem.bytes
  { bytes := frameBytes (headerByte s.faultFlag s.ownHold s.valid s.bus.number) items.length items.flatten
    taken := n
    notes := s.noteList }

/-- The HOLD flag of a frame in flight. -/
def Flight.hold (f : Flight) : Bool := (f.bytes.getD 1 0).getLsbD 6

/-! ### Application (R142, R143) -/

/-- One item of a frame from `source` is applied (R142). It answers with the mirrors that took a report, `taken` being those of
the items before. -/
def State.applyItem (s : State) (source : Station) (taken : List (Fin 6)) (i : Item) : List (Fin 6) × State :=
  match i.kind with
  | 1 =>
    match axisReportOf i.body with
    | none => (taken, s.raise .badFrame)
    | some r =>
      let x := s.applyAxisItem source r
      (x.1.toList ++ taken, x.2)
  | 2 =>
    match tagOf i.body with
    | none => (taken, s.raise .badFrame)
    | some t =>
      if s.bus.station = .rotating ∧ s.valid then (taken, s.withWorks (s.works.remoteTag s.env t)) else (taken, s)
  | 3 =>
    match cmdItemOf i.body with
    | none => (taken, s.raise .badFrame)
    | some c => if c.target = s.bus.number then (taken, s.takeCommand source c.tid c.cmd) else (taken, s)
  | _ => (taken, s)

/-- The items of a frame, one by one in frame order (R142), each whole with the events it delivers before the next is taken
(R105). Reports for different handles so reach the consumers in frame order, where R115 and R7 let them arrive in either
(DEDUCED, log entry 20). -/
def State.applyItems (s : State) (source : Station) (taken : List (Fin 6)) (l : List Item) : List (Fin 6) × State :=
  match l with
  | [] => (taken, s)
  | i :: rest =>
    let r := s.applyItem source taken i
    r.2.applyItems source r.1 rest

/-- The items of a frame and, after the last, the check of R112. -/
def State.applyBody (s : State) (f : Frame) : State :=
  let r := s.applyItems f.source [] f.items
  r.2.stalePublished f.source r.1

end Sys2Proof.Machine
end

