-- ==== Sys2Proof/Machine/BusControl.lean ====
section
/-! DEFINITION. The bus controller: reception, the wait, own transmission, joining, locking out and the warm restart
(chapters 7 and 10.3). -/

namespace Sys2Proof.Machine

/-! ### Bus times -/

/-- CLK_IN periods of 50 ns in one bit time (R186). -/
def bitClocks (rate : BitVec 2) : Nat :=
  match rate.toNat with
  | 0 => 32
  | 1 => 16
  | 2 => 8
  | _ => 4

/-- The turnaround gap G. -/
def gapBits : Nat := 24

/-- The slot timeout T. -/
def slotBits : Nat := 64

/-- The intra-frame idle limit. -/
def frameIdleBits : Nat := 12

/-- The empty-bus threshold G + 32 × T. -/
def emptyBusBits : Nat := 2072

/-- The wait W = G + d × T with d = (s − a − 1) modulo 32; an unknown anchor counts as 31 (R123). -/
def waitBits (number : Station) (anchor : Option Station) : Nat :=
  gapBits + (number - anchor.getD 31 - 1).toNat * slotBits

/-! ### Reception -/

/-- A frame has ended with this anchor, `idle` CLK_IN periods ago (R121 to R123): a ROTATING station starts its wait. -/
def Bus.frameEnded (b : Bus) (anchor : Option Station) (idle : Nat) : Bus :=
  { b with
    anchor := anchor
    idle := idle
    byteLeft := 0
    reception := .none
    fresh := false
    wait := if b.station = .rotating then some ⟨waitBits b.number anchor, idle⟩ else none }

/-- A byte with a framing error makes the frame corrupt, and it goes on delimited by idle (R119, R120). -/
def Reception.framingError (r : Reception) : Reception :=
  match r with
  | .frame => .corrupt
  | r => r

/-- A start bit is heard (R118, R119, R124): it ends the idle count and any wait, and begins a byte, whose stop bit reads `stop`; of
a new frame when none is being received. -/
def Bus.startBit (b : Bus) (idle : Nat) (stop : Bool) : Bus :=
  let counted := b.idle + idle * bitClocks b.rate
  let early := decide (counted < gapBits * bitClocks b.rate)
  let r := match b.reception with
    | .none => if early then (if b.fresh then .discarded else .corrupt) else .frame
    | r => r
  { b with
    idle := 0
    byteLeft := 10 * bitClocks b.rate
    wait := none
    fresh := false
    rxd := stop
    reception := if stop then r else r.framingError }

/-- What is seen on BUS_RXD is taken (R117, R118, R124). A level that goes to 0 and stays there is a start bit too, of a byte whose
stop bit reads 0. In LOADING the bus is not received, while the own frame is in flight the bits are read for comparison
alone, and while BUS_RXD is held at 0 the receiver looks for no start bit: then only the level is followed. -/
def State.busSample (s : State) (x : BusSample) : State :=
  match x with
  | .start idle stop => if s.hears then s.withBus (s.bus.startBit idle stop) else s
  | .spike => s
  | .level rxd => s.withBus (if s.hears ∧ !rxd then s.bus.startBit 0 false else { s.bus with rxd := rxd })

/-- The meaning of START_BIT (R124). -/
def execStartBit (sample : BusSample) (s : State) : Host.Outcome State Fault Refusal := .next (s.busSample sample)

/-- The station becomes ROTATING (R132, R160): anchor unknown, join record empty, the first wait from this moment. -/
def State.join (s : State) : State :=
  let t := s.enterStation .rotating
  (t.withBus
    { t.bus with anchor := none, joined := [], wait := some ⟨waitBits t.bus.number none, 0⟩ }).refreshLines

/-- The entry to LOCKED_OUT (R134). -/
def State.lockOut (s : State) : State :=
  let t := s.enterStation .lockedOut
  ((t.withBus { t.bus with wait := none }).withWorks { t.works.emptyQueue with txQueue := [] }).refreshLines

/-- A corrupt frame ends (R121), `idle` CLK_IN periods ago. -/
def State.corruptFrame (s : State) (idle : Nat) : State :=
  (s.raise .badFrame).withBus (s.bus.frameEnded none idle)

/-- A frame ends that is not judged: the discarded first frame (R121) or the remains of an own aborted frame (R126). -/
def State.unjudgedFrame (s : State) (idle : Nat) : State := s.withBus (s.bus.frameEnded none idle)

/-- A valid frame of the own number (R134). -/
def State.ownNumberFrame (s : State) : State :=
  let t := s.withBus (s.bus.frameEnded (some s.bus.number) 0)
  if s.bus.station = .lockedOut then t else t.lockOut

/-- The join record takes a source (R131). -/
def Bus.record (b : Bus) (source : Station) : Bus :=
  if b.station = .listening ∧ !b.joined.contains source then { b with joined := b.joined ++ [source] } else b

/-- A valid frame from another station is applied (R121, R142): the header with the anchor held before, then the body. A
listening station that has this source in its join record becomes ROTATING at the same frame end (R132); whether before
or after the items the spec leaves open (log entry 2). -/
def State.acceptFrame (s : State) (f : Frame) : State :=
  let joins := decide (s.bus.station = .listening) && s.bus.joined.contains f.source
  let t := (s.withWorks (s.works.count framesReceived)).applyHeader s.bus.anchor f.source f.hold
  let u := t.withBus ((t.bus.frameEnded (some f.source) 0).record f.source)
  if joins then
    if f.items.isEmpty then (u.applyBody f).join
    else
      let v := u.withWorks u.works.draw.2
      if u.works.draw.1 % 2 = 0 then (v.applyBody f).join else v.join.applyBody f
  else u.applyBody f

/-- A frame is judged at its end (R121). -/
def State.judgeFrame (s : State) (bytes : List Byte) : State :=
  match judge bytes with
  | none => s.corruptFrame 0
  | some f => if f.source = s.bus.number then s.ownNumberFrame else s.acceptFrame f

/-- Bytes followed a frame's end with no idle between: a gap violation, whose frame is corrupt and delimited by idle, and which
cancels the wait (R119, R124). Its last byte has just ended. -/
def Bus.gapViolation (b : Bus) : Bus :=
  { b with idle := 0, byteLeft := 0, wait := none, fresh := false, reception := .corrupt }

/-- Bytes have been read, the last of them ending a frame (R120, R121). A frame that began too early, or the remains of an own
aborted frame, is delimited by idle, takes every byte and cannot be valid (R119, R126). A frame delimited by its length
ends at its own last byte and is judged there; what follows it is another (R119). -/
def State.frameEnd (s : State) (bytes : List Byte) : State :=
  match s.bus.reception with
  | .discarded => s.unjudgedFrame 0
  | .remains => s.unjudgedFrame 0
  | .corrupt => s.corruptFrame 0
  | _ =>
    let t := s.judgeFrame (cutFrame bytes).1
    if (cutFrame bytes).2.isEmpty then t else t.withBus t.bus.gapViolation

/-- The meaning of RECEIVE_FRAME (R121). A frame whose start bit no START_BIT announced is taken whole, as one begun after at
least G of idle (log entry 7). -/
def execReceiveFrame (bytes : List Byte) (s : State) : Host.Outcome State Fault Refusal :=
  .next (if s.hears then s.frameEnd bytes else s)

/-- A frame delimited by idle, or truncated, ends (R120): its end is the stop bit of its last byte, so more than 12 bit times of
idle have been counted since. Where no START_BIT announced the frame, the idle counted until now came before it. -/
def State.idleEnd (s : State) : State :=
  let least := frameIdleBits * bitClocks s.bus.rate + 1
  let idle := if s.bus.reception = .none then least else max s.bus.idle least
  match s.bus.reception with
  | .discarded => s.unjudgedFrame idle
  | .remains => s.unjudgedFrame idle
  | _ => s.corruptFrame idle

/-- The meaning of FRAME_END_BY_IDLE (R120). While BUS_RXD stays at 0 no frame ends (R118). -/
def execFrameEndByIdle (s : State) : Host.Outcome State Fault Refusal :=
  .next (if s.hears then s.idleEnd else s)

/-- Unbroken idle reaches the empty-bus threshold (R132): a listening station joins, unless BUS_RXD is held at 0 (R118). -/
def State.emptyBus (s : State) : State :=
  if s.hears ∧ s.bus.station = .listening ∧ s.bus.reception = .none then
    State.join (s.withBus { s.bus with idle := max s.bus.idle (emptyBusBits * bitClocks s.bus.rate) })
  else s

/-- The meaning of EMPTY_BUS (R132). -/
def execEmptyBus (s : State) : Host.Outcome State Fault Refusal := .next s.emptyBus

/-! ### Own transmission -/

/-- The wait runs out and the own frame starts (R125). While BUS_RXD stays at 0 no wait runs out (R118). -/
def State.startFrame (s : State) : State :=
  if s.bus.station = .rotating ∧ s.bus.wait.isSome ∧ s.bus.flight = none ∧ s.bus.rxd then
    s.withBus { s.bus with wait := none, flight := some s.assemble }
  else s

/-- The meaning of WAIT_EXPIRY (R123, R125). -/
def execWaitExpiry (s : State) : Host.Outcome State Fault Refusal := .next s.startFrame

/-- The item is the response of a RESTART that was carried out (R182). -/
def TxItem.isRestart (i : TxItem) : Bool :=
  match i with
  | .tag _ => false
  | .rsp r => decide (r.code = 0x0D) && decide (r.result = .ok)

/-- The completed frame carried a pending RESTART's response (R182). -/
def State.restartDue (s : State) (f : Flight) : Bool :=
  s.command.restartPending && (s.works.txQueue.take f.taken).any TxItem.isRestart

/-- What a completion is to the assembler (R149). -/
def Works.completeItems (w : Works) (f : Flight) : Works := { w with txQueue := w.txQueue.drop f.taken }

/-- What a completion is to the notice unit (R196, R197). -/
def Works.completeNotes (w : Works) (f : Flight) : Works :=
  { w with notices := (w.notices.subtract f.notes).count framesSent }

/-- What a completion is to the roster (R158, R160): the own entry's last HOLD, and the misses between the anchor held before
the frame and the own number. -/
def State.completeRoster (s : State) (anchor : Option Station) (f : Flight) : State :=
  let own := stationIndex s.bus.number
  ((s.withEntry own { s.roster.get own with hold := f.hold }).countMisses anchor s.bus.number).refreshLines

/-- The own frame completes (R127): all but a warm restart. Its last stop bit has been read back at 1. Where a count is carried, the
order in which the notice unit subtracts it and the roster raises its notices can be seen, since a pending count stops at
255 (R195, R196): it is left open (DESIGN CHOICE, log entry 2). -/
def State.completeFrame (s : State) (f : Flight) : State :=
  let anchor := s.bus.anchor
  let t := (s.withBus { s.bus.frameEnded (some s.bus.number) 0 with flight := none, rxd := true }).withWorks
    (s.works.completeItems f)
  if f.notes.isEmpty then State.completeRoster (t.withWorks (t.works.completeNotes f)) anchor f
  else if t.works.draw.1 % 2 = 0 then
    State.completeRoster (t.withWorks (t.works.draw.2.completeNotes f)) anchor f
  else
    let u := State.completeRoster (t.withWorks t.works.draw.2) anchor f
    u.withWorks (u.works.completeNotes f)

/-- What the warm restart does to the blocks that axis events work on (R42, R67, R84, R152, R199). -/
def Works.restart (w : Works) : Works :=
  { w.emptyQueue with
    txQueue := []
    sensors := w.sensors.change fun _ x => { x with lockout := 0 }
    rings := w.rings.change fun _ x => { x with pointer := 0 }
    notices := { w.notices with pending := Bank.fill 0 } }

/-- The warm restart (R184): LISTENING, with configuration and counting kept. -/
def State.warmRestart (s : State) : State :=
  let t : State :=
    { s with
      bus := { s.bus with station := .listening, anchor := none, wait := none, joined := [], flight := none }
      roster := Bank.fill ⟨.unknown, 0, false⟩
      command := ⟨Bank.fill none, false⟩
      axes := s.axes.change fun _ x => { x with arm := none }
      works := s.works.restart }
  let u := ((List.finRange 6).foldl (fun s i => s.restartMirror i) t).refreshLines
  u.withWorks (u.works.recomputeAll u.env)

/-- The own frame in flight completes (R127, R182). -/
def State.complete (s : State) : State :=
  match s.bus.flight with
  | none => s
  | some f => if s.restartDue f then (s.completeFrame f).warmRestart else s.completeFrame f

/-- The meaning of COMPLETION (R127). -/
def execCompletion (s : State) : Host.Outcome State Fault Refusal := .next s.complete

/-- What an abort leaves for the receiver to read as remains (R126). At a start bit after the lead byte's, read back at 1, no byte
begins (R118): the remains end at the stop bit before it, half a bit time ago (R120). Otherwise the byte in progress is read
to its stop bit; one that is itself the bit that differs reads 0. At the lead byte's start bit no byte has gone before, while
R126 reads the remains from the lead byte on: the model lets that byte run on to its stop bit like any other, 9.5 bit times
after the abort (DESIGN CHOICE, log entry 7). -/
def Bus.abandon (b : Bus) (x : Mismatch) : Bus :=
  let half := bitClocks b.rate / 2
  if x.bit % 10 = 0 ∧ x.bit ≠ 0 then
    { b with flight := none, reception := .remains, idle := half, byteLeft := 0, rxd := true }
  else
    { b with
      flight := none
      reception := .remains
      idle := 0
      byteLeft := (10 - x.bit % 10) * bitClocks b.rate - half
      rxd := x.stop && decide (x.bit % 10 ≠ 9) }

/-- The own frame in flight is aborted (R126): its items are the oldest waiting again (R146), its NOTE list is discarded, COLLISION
is raised, and what is left on the bus is read as remains. -/
def State.abortFrame (s : State) (x : Mismatch) : State :=
  match s.bus.flight with
  | none => s
  | some _ => (s.raise .collision).withBus (s.bus.abandon x)

/-- The meaning of ABORT (R126). -/
def execAbort (mismatch : Mismatch) (s : State) : Host.Outcome State Fault Refusal := .next (s.abortFrame mismatch)

end Sys2Proof.Machine
end

