-- ==== Sys2Proof/Machine/Sensors.lean ====
section
/-! DEFINITION. The sensor inputs (sections 3.1 to 3.3) and the hold input (R161). -/

namespace Sys2Proof.Machine

/-- A qualified change to `level` is an edge of interest (R47). -/
def EdgeSetting.interest (e : EdgeSetting) (level : Bool) : Bool :=
  match e with
  | .none => false
  | .rise => level
  | .fall => !level
  | .both => true

/-- `s` with sensor `k` replaced. -/
def State.withSensor (s : State) (k : Fin 4) (x : Sensor) : State :=
  s.withWorks { s.works with sensors := s.works.sensors.put k x }

/-- The tag a capture on handle `h` makes (R51). -/
def State.capturedTag (s : State) (k : Fin 4) (h : Handle) (id : BitVec 6) : Tag where
  origin := s.bus.number
  sequence := s.nextSequence
  tagClass := (s.cfg.sensors.get k).tagClass
  hop := 0
  lineAxis := id
  epoch := s.env.epoch h
  position := s.env.position h

/-- A capture makes a local tag (R48, R51, R52, R53): it takes the next sequence number, and the lockout is set. -/
def State.makeTag (s : State) (k : Fin 4) (h : Handle) (id : BitVec 6) : State :=
  let t := s.capturedTag k h id
  let s := { s with nextSequence := s.nextSequence + 1 }
  let s := s.withWorks (s.works.localTag s.env h k t)
  s.withSensor k { s.works.sensors.get k with lockout := (s.cfg.sensors.get k).lockout }

/-- An accepted edge captures (R48); on an axis that is not ACTIVE the capture is refused with UNMAPPED. -/
def State.capture (s : State) (k : Fin 4) : State :=
  match (s.cfg.sensors.get k).capture with
  | none => s
  | some h =>
    if s.env.active h then
      match s.env.lineAxis h with
      | some id => s.makeTag k h id
      | none => s
    else s.raise .unmapped

/-- An edge of the sensor, its qualified level already at `level` (R47): accepted with lockout 0, ROTATING and a valid
configuration; ignored otherwise. -/
def State.sensorEdge (s : State) (k : Fin 4) (level : Bool) : State :=
  if (s.cfg.sensors.get k).edge.interest level ∧ (s.works.sensors.get k).lockout = 0 ∧
      s.bus.station = .rotating ∧ s.valid then s.capture k
  else s

/-- The change away from the qualified level is qualified (R46). -/
def State.qualify (s : State) (k : Fin 4) : State :=
  let x := s.works.sensors.get k
  (s.withSensor k { x with qualified := !x.qualified, pending := none }).sensorEdge k (!x.qualified)

/-- The filters run: the configuration is valid and LOADING has ended (R67). -/
def State.filtersRun (s : State) : Bool := s.receives && s.valid

/-- A sample of the sensor's pin (R46): a change begins, or with filter code 0 is qualified at once; a return to the qualified
level cancels. While the filters do not run, only the pin's level is known. -/
def State.sensorSample (s : State) (k : Fin 4) (level : Bool) : State :=
  let x := s.works.sensors.get k
  let s' := s.withSensor k { x with pin := level }
  if !s.filtersRun then s'
  else if level = x.qualified then s.withSensor k { x with pin := level, pending := none }
  else if (s.cfg.sensors.get k).filter = 0 then s'.qualify k
  else if x.pending.isSome then s'
  else s.withSensor k { x with pin := level, pending := some 0 }

/-- The meaning of SENSOR_PIN_CHANGE (R46). -/
def execSensorPinChange (sensor : Fin 4) (level : Bool) (s : State) : Host.Outcome State Fault Refusal :=
  .next (s.sensorSample sensor level)

/-- The pending change of a sensor, if any, has been stable for the filter time (R46). While the filters do not run nothing is
qualified (R67). -/
def State.qualifyPending (s : State) (k : Fin 4) : State :=
  if s.filtersRun ∧ (s.works.sensors.get k).pending.isSome then s.qualify k else s

/-- The meaning of QUALIFIED_CHANGE (R46). -/
def execQualifiedChange (sensor : Fin 4) (s : State) : Host.Outcome State Fault Refusal :=
  .next (s.qualifyPending sensor)

/-! ### The hold input (R161) -/

/-- A sample of HOLD_IN_N: 0 is asserted. The filter runs from the cold reset on, in every station state; while the device is
held in reset only the pin's level is known. -/
def HoldIn.sample (x : HoldIn) (held level : Bool) : HoldIn :=
  if held then { x with pin := level }
  else if x.asserted = !level then { x with pin := level, pending := none }
  else if x.pending.isSome then { x with pin := level }
  else { x with pin := level, pending := some 0 }

/-- The meaning of HOLD_IN_CHANGE (R161). -/
def execHoldInChange (level : Bool) (s : State) : Host.Outcome State Fault Refusal :=
  .next (s.withHoldIn (s.holdIn.sample s.held level))

/-- The pending change, if any, is qualified: the own hold cause PIN begins or ends, and the line state is derived anew
(R161, R164). -/
def State.holdInQualified (s : State) : State :=
  if s.holdIn.pending.isSome then
    (s.withHoldIn { s.holdIn with asserted := !s.holdIn.asserted, pending := none }).refreshLines
  else s

/-- The meaning of HOLD_IN_QUALIFY (R161). -/
def execHoldInQualify (s : State) : Host.Outcome State Fault Refusal := .next s.holdInQualified

end Sys2Proof.Machine
end

