-- ==== Sys2Proof/Machine/Clock.lean ====
section
/-! DEFINITION. One period of CLK_IN (50 ns): what `step` does while no command waits (log entry 5). The timers advance, and the
time-driven rows whose moment has come act by their own meanings, in an order left open. -/

namespace Sys2Proof.Machine

/-- CLK_IN periods in one unit of 10 µs (R93). -/
def unitClocks : Nat := 200

/-- CLK_IN periods of a filter code (R44). -/
def filterClocks (code : BitVec 3) : Nat :=
  match code.toNat with
  | 0 => 0
  | 1 => 100
  | 2 => 400
  | 3 => 1000
  | 4 => 4000
  | 5 => 20000
  | 6 => 100000
  | _ => 400000

/-- CLK_IN periods in the 1 ms of the hold input's filter (R161). -/
def holdClocks : Nat := 20000

/-- A TIMED pulse one period later (R93). -/
def Pulse.tick (p : Pulse) : Pulse :=
  match p with
  | .timed r g => if g + 1 < unitClocks then .timed r (g + 1) else .timed (r - 1) 0
  | p => p

/-- The filters of the sensors and the timers of the lines one period later (R46, R93). -/
def Works.tick (w : Works) (filters : Bool) : Works :=
  { w with
    sensors := w.sensors.change fun _ x => if filters then { x with pending := x.pending.map (· + 1) } else x
    outputs := w.outputs.change fun _ o => { o with pulse := o.pulse.tick } }

/-- The bus one period later (R118, R123): idle is counted with BUS_RXD at 1 outside a byte and outside own transmission, and a
running wait counts the same idle. -/
def Bus.tick (b : Bus) : Bus :=
  if b.flight.isSome then b
  else if 0 < b.byteLeft then { b with byteLeft := b.byteLeft - 1 }
  else if !b.rxd then b
  else { b with idle := b.idle + 1, wait := b.wait.map fun x => { x with counted := x.counted + 1 } }

/-- Every timer one period later. -/
def State.advanceClock (s : State) : State :=
  { s with
    works := s.works.tick s.filtersRun
    holdIn := { s.holdIn with pending := s.holdIn.pending.map (· + 1) }
    bus := if s.receives then s.bus.tick else s.bus }

/-- The time-driven events. -/
inductive Alarm where
  | pulse (q : Fin 8)
  | sensor (k : Fin 4)
  | holdIn
  | frameEnd
  | emptyBus
  | wait
  deriving DecidableEq, Repr

/-- All of them. -/
def Alarm.all : List Alarm :=
  (List.finRange 8).map Alarm.pulse ++ (List.finRange 4).map Alarm.sensor ++ [.holdIn, .frameEnd, .emptyBus, .wait]

/-- A frame is being received (section 7.2). -/
def Reception.busy (r : Reception) : Bool := r ≠ .none

/-- The moment of an alarm has come: TIMED_PULSE_EXPIRY at remaining time 0 (R93), QUALIFIED_CHANGE at the filter time (R46),
HOLD_IN_QUALIFY at 1 ms (R161), FRAME_END_BY_IDLE when the idle exceeds 12 bit times (R120), EMPTY_BUS at 2072
(R132), WAIT_EXPIRY at W (R123); the last three never while BUS_RXD is held at 0 (R118). -/
def State.due (s : State) (a : Alarm) : Bool :=
  let bit := bitClocks s.bus.rate
  match a with
  | .pulse q => match (s.works.outputs.get q).pulse with
    | .timed r _ => decide (r = 0)
    | _ => false
  | .sensor k => match (s.works.sensors.get k).pending with
    | some n => s.filtersRun && decide (filterClocks (s.cfg.sensors.get k).filter ≤ n)
    | none => false
  | .holdIn => match s.holdIn.pending with
    | some n => decide (holdClocks ≤ n)
    | none => false
  | .frameEnd =>
    s.hears && s.bus.reception.busy && decide (frameIdleBits * bit < s.bus.idle)
  | .emptyBus =>
    s.hears && decide (s.bus.station = .listening) && !s.bus.reception.busy &&
      decide (emptyBusBits * bit ≤ s.bus.idle)
  | .wait => match s.bus.wait with
    | some x => s.bus.rxd && decide (x.length * bit ≤ x.counted)
    | none => false

/-- An alarm acts as its row does. -/
def State.sound (s : State) (a : Alarm) : State :=
  match a with
  | .pulse q => s.withWorks (s.works.expire q)
  | .sensor k => s.qualifyPending k
  | .holdIn => s.holdInQualified
  | .frameEnd => s.idleEnd
  | .emptyBus => s.emptyBus
  | .wait => s.startFrame

/-- The alarms due together act one after another, each only if it is still due when its turn comes. -/
def State.soundAll (s : State) (l : List Alarm) : State :=
  l.foldl (fun s a => if s.due a then s.sound a else s) s

/-- One period of CLK_IN. A device held in reset does nothing (R186). -/
def State.tick (s : State) : State :=
  if s.held then s
  else
    let t := s.advanceClock
    let x := t.works.arrange (Alarm.all.filter t.due)
    State.soundAll (t.withWorks x.2) x.1

end Sys2Proof.Machine
end

