-- ==== Sys2Proof/Machine/Startup.lean ====
section
/-! DEFINITION. Cold reset, the read passes, the configuration block and its checks, and the end of LOADING (chapter 11). -/

namespace Sys2Proof.Machine

/-! ### The block as read: section 8.10, byte for byte -/

/-- Byte `a` of the bytes read; 0 beyond them. (A block shorter than its sections fails check 3 whatever stands there.) -/
def byteAt (l : List Byte) (a : Nat) : Byte := l.getD a 0

/-- The 16-bit quantity at address `a`. -/
def be16At (l : List Byte) (a : Nat) : BitVec 16 := be16 (byteAt l a) (byteAt l (a + 1))

/-- The 32-bit quantity at address `a`. -/
def be32At (l : List Byte) (a : Nat) : BitVec 32 :=
  be32 (byteAt l a) (byteAt l (a + 1)) (byteAt l (a + 2)) (byteAt l (a + 3))

/-- A local axis record. -/
structure AxisRecord where
  flags : Byte
  modulus : BitVec 32
  deriving DecidableEq, Repr

/-- A mirror record. -/
structure MirrorRecord where
  id : Byte
  kind : Byte
  modulus : BitVec 32
  deriving DecidableEq, Repr

/-- A sensor record. -/
structure SensorRecord where
  edge : Byte
  filter : Byte
  lockout : BitVec 16
  capture : Byte
  last : Byte
  deriving DecidableEq, Repr

/-- A tag rule record. -/
structure RuleRecord where
  source : Byte
  classes : BitVec 16
  origin : Byte
  hop : Byte
  gate : Byte
  offset : BitVec 32
  action : Option Action
  flags : Byte
  deriving DecidableEq, Repr

/-- A cam entry record. -/
structure CamRecord where
  position : BitVec 32
  flags : Byte
  action : Option Action
  deriving DecidableEq, Repr

/-- A cam ring record; `length` is its length byte. -/
structure RingRecord where
  handle : Byte
  length : Byte
  flags : Byte
  entries : List CamRecord
  deriving DecidableEq, Repr

/-- A window record. -/
structure WindowRecord where
  handle : Byte
  lower : BitVec 32
  upper : BitVec 32
  deriving DecidableEq, Repr

/-- An output record. -/
structure OutputRecord where
  flags : Byte
  followed : Byte
  deriving DecidableEq, Repr

/-- The whole block. -/
structure Block where
  version : Byte
  length : BitVec 16
  absentLimit : Byte
  essential : BitVec 32
  console : BitVec 32
  noticeMask : BitVec 16
  holdOnFault : Bool
  lateTolerance : BitVec 16
  jumpLimit : BitVec 32
  axes : Bank AxisRecord 2
  mirrors : Bank MirrorRecord 6
  sensors : Bank SensorRecord 4
  rules : Bank RuleRecord 8
  rings : Bank RingRecord 4
  windows : Bank WindowRecord 8
  outputs : Bank OutputRecord 8
  deriving DecidableEq, Repr

/-- An action record at address `a` (R154). -/
def actionAt (l : List Byte) (a : Nat) : Option Action :=
  actionOf (byteAt l a) (byteAt l (a + 1)) (byteAt l (a + 2))

/-- A cam entry record of eight bytes at address `a`. -/
def camAt (l : List Byte) (a : Nat) : CamRecord := ⟨be32At l a, byteAt l (a + 4), actionAt l (a + 5)⟩

/-- A cam ring record of 3 + 8 × L bytes at address `a` (R155). -/
def ringAt (l : List Byte) (a : Nat) : RingRecord where
  handle := byteAt l a
  length := byteAt l (a + 1)
  flags := byteAt l (a + 2)
  entries := (List.range (byteAt l (a + 1)).toNat).map fun k => camAt l (a + 3 + 8 * k)

/-- The length of the ring record at address `a`. -/
def ringSize (l : List Byte) (a : Nat) : Nat := 3 + 8 * (byteAt l (a + 1)).toNat

/-- The block in the bytes read: the sections in their order, those after the rings read from where the rings end (R155). -/
def blockOf (l : List Byte) : Block :=
  let r0 := 204
  let r1 := r0 + ringSize l r0
  let r2 := r1 + ringSize l r1
  let r3 := r2 + ringSize l r2
  let w := r3 + ringSize l r3
  let q := w + 72
  { version := byteAt l 0
    length := be16At l 1
    absentLimit := byteAt l 4
    essential := be32At l 5
    console := be32At l 9
    noticeMask := be16At l 13
    holdOnFault := (byteAt l 15).getLsbD 0
    lateTolerance := be16At l 16
    jumpLimit := be32At l 18
    axes := Bank.tabulate fun i =>
      let a := 22 + 5 * i.val
      ⟨byteAt l a, be32At l (a + 1)⟩
    mirrors := Bank.tabulate fun i =>
      let a := 32 + 6 * i.val
      ⟨byteAt l a, byteAt l (a + 1), be32At l (a + 2)⟩
    sensors := Bank.tabulate fun i =>
      let a := 68 + 6 * i.val
      ⟨byteAt l a, byteAt l (a + 1), be16At l (a + 2), byteAt l (a + 4), byteAt l (a + 5)⟩
    rules := Bank.tabulate fun i =>
      let a := 92 + 14 * i.val
      ⟨byteAt l a, be16At l (a + 1), byteAt l (a + 3), byteAt l (a + 4), byteAt l (a + 5), be32At l (a + 6),
        actionAt l (a + 10), byteAt l (a + 13)⟩
    rings := Bank.tabulate fun i =>
      ringAt l (match i.val with
        | 0 => r0
        | 1 => r1
        | 2 => r2
        | _ => r3)
    windows := Bank.tabulate fun i =>
      let a := w + 9 * i.val
      ⟨byteAt l a, be32At l (a + 1), be32At l (a + 5)⟩
    outputs := Bank.tabulate fun i =>
      let a := q + 2 * i.val
      ⟨byteAt l a, byteAt l (a + 1)⟩ }

/-! ### The settings a block gives (R191) -/

/-- A handle byte; FFh and every byte above 7 name none. -/
def handleByte (b : Byte) : Option Handle := if h : b.toNat < 8 then some ⟨b.toNat, h⟩ else none

/-- The settings of a local axis record. -/
def AxisRecord.settings (r : AxisRecord) : AxisSettings where
  mode := match (r.flags.extractLsb' 0 2).toNat with
    | 0 => .off
    | 1 => .quad4
    | 2 => .pulseDir
    | _ => .upDown
  invert := r.flags.getLsbD 2
  kind := if r.flags.getLsbD 3 then .ring else .track
  modulus := r.modulus.toNat
  publish := r.flags.getLsbD 4

/-- The settings of a mirror record. -/
def MirrorRecord.settings (r : MirrorRecord) : MirrorSettings where
  lineAxis := if r.id.toNat < 64 then some (r.id.setWidth 6) else none
  kind := if r.kind = 1 then .ring else .track
  modulus := r.modulus.toNat

/-- The settings of a sensor record. -/
def SensorRecord.settings (r : SensorRecord) : SensorSettings where
  edge := match r.edge.toNat with
    | 1 => .rise
    | 2 => .fall
    | 3 => .both
    | _ => .none
  filter := r.filter.setWidth 3
  lockout := r.lockout.toNat
  capture := handleByte r.capture
  tagClass := r.last.extractLsb' 0 4
  publish := r.last.getLsbD 7

/-- The settings of a tag rule record. -/
def RuleRecord.settings (r : RuleRecord) : RuleSettings where
  source := if h : r.source.toNat < 4 then .sensor ⟨r.source.toNat, h⟩ else .line
  classes := r.classes
  origin := if r.origin = 0xFF then none else some (r.origin.setWidth 5)
  hop := if r.hop = 0xFF then none else some (r.hop.setWidth 2)
  gate := handleByte r.gate
  offset := r.offset
  action := r.action
  forward := r.flags.getLsbD 0
  armed := r.flags.getLsbD 1

/-- The settings of a cam entry record. -/
def CamRecord.settings (r : CamRecord) : CamEntry where
  position := r.position
  direction := match (r.flags.extractLsb' 0 2).toNat with
    | 1 => .fwd
    | 2 => .rev
    | _ => .both
  enable := r.flags.getLsbD 7
  action := r.action

/-- The settings of a cam ring record; the entries of an unused ring are not used (R155). -/
def RingRecord.settings (r : RingRecord) : RingSettings where
  handle := handleByte r.handle
  entries := if r.handle = 0xFF then [] else r.entries.map CamRecord.settings
  armed := r.flags.getLsbD 0

/-- The settings of a window record. -/
def WindowRecord.settings (r : WindowRecord) : WindowSettings := ⟨handleByte r.handle, r.lower, r.upper⟩

/-- The settings of an output record. -/
def OutputRecord.settings (r : OutputRecord) : OutputSettings where
  mode := if r.flags.getLsbD 0 then .window else .action
  followed := handleByte r.followed
  lowActive := r.flags.getLsbD 1
  safe := r.flags.getLsbD 2

/-- The settings of a block (R191). -/
def Block.settings (b : Block) : Settings where
  absentLimit := b.absentLimit.toNat
  essential := b.essential
  console := b.console
  noticeMask := b.noticeMask
  holdOnFault := b.holdOnFault
  lateTolerance := b.lateTolerance.toNat
  jumpLimit := b.jumpLimit.toNat
  axes := Bank.tabulate fun i => (b.axes.get i).settings
  mirrors := Bank.tabulate fun i => (b.mirrors.get i).settings
  sensors := Bank.tabulate fun i => (b.sensors.get i).settings
  rules := Bank.tabulate fun i => (b.rules.get i).settings
  rings := Bank.tabulate fun i => (b.rings.get i).settings
  windows := Bank.tabulate fun i => (b.windows.get i).settings
  outputs := Bank.tabulate fun i => (b.outputs.get i).settings

/-! ### The checks (R190): each says when the block fails it -/

/-- Some part of a bank is as `p` says. -/
def someOf {α : Type} {n : Nat} (v : Bank α n) (p : Fin n → α → Bool) : Bool :=
  (List.finRange n).any fun i => p i (Sys2Proof.Bank.get v i)

/-- A modulus or the jump limit in its range. -/
def inRange (low high n : Nat) : Bool := decide (low ≤ n) && decide (n ≤ high)

/-- 2^24. -/
def maxModulus : Nat := 16777216

/-- A handle byte that names a handle in use of the block's settings. -/
def Settings.byteInUse (c : Settings) (b : Byte) : Bool :=
  match handleByte b with
  | some h => c.inUse h
  | none => false

/-- A byte that names a TRACK handle (section 11.4). -/
def Settings.byteIsTrack (c : Settings) (b : Byte) : Bool :=
  match handleByte b with
  | some h => c.isTrack h
  | none => false

/-- A byte that names a window in use: one whose bound handle is not FFh (section 11.4), whether or not it is a handle. -/
def Block.byteIsWindow (b : Block) (x : Byte) : Bool :=
  match handleByte x with
  | some k => (b.windows.get k).handle ≠ 0xFF
  | none => false

/-- The geometry of the handle a byte names, if it names one on a RING axis. -/
def Settings.ringModulus (c : Settings) (b : Byte) : Option Nat :=
  match handleByte b with
  | some h => if (c.geometry h).kind = .ring then some (c.geometry h).modulus else none
  | none => none

/-- The position does not fit the axis the byte names: M or more on RING (R190 checks 11, 12). -/
def Settings.tooFar (c : Settings) (b : Byte) (p : Pos) : Bool :=
  match c.ringModulus b with
  | some m => decide (m ≤ p.toNat)
  | none => false

/-- Check 2: the format version is not 01h. -/
def Block.fails2 (b : Block) : Bool := b.version ≠ 0x01

/-- Check 3: the block length is not that of its sections (R155). -/
def Block.fails3 (b : Block) : Bool :=
  b.length.toNat ≠ 306 + 8 * ((b.rings.get 0).length.toNat + (b.rings.get 1).length.toNat +
    (b.rings.get 2).length.toNat + (b.rings.get 3).length.toNat)

/-- Check 4: the absent limit or the jump limit. -/
def Block.fails4 (b : Block) : Bool :=
  !inRange 1 7 b.absentLimit.toNat || !inRange 1 maxModulus b.jumpLimit.toNat

/-- Check 5: the own number is in the console set. -/
def Block.fails5 (b : Block) (own : Station) : Bool := b.console.getLsbD own.toNat

/-- Check 6: a RING modulus. -/
def Block.fails6 (b : Block) : Bool :=
  someOf b.axes (fun _ r => r.flags.getLsbD 3 && !inRange 2 maxModulus r.modulus.toNat) ||
  someOf b.mirrors (fun _ r => r.id ≠ 0xFF && decide (r.kind = 1) && !inRange 2 maxModulus r.modulus.toNat)

/-- Check 7: the mirrors' ids and kinds. -/
def Block.fails7 (b : Block) (own : Station) : Bool :=
  someOf b.mirrors fun i r =>
    (r.id ≠ 0xFF && !decide (r.id.toNat < 64)) || !decide (r.kind.toNat ≤ 1) ||
    decide (r.id.toNat = 2 * own.toNat) || decide (r.id.toNat = 2 * own.toNat + 1) ||
    (r.id ≠ 0xFF && someOf b.mirrors fun j x => decide (i ≠ j) && decide (x.id = r.id))

/-- Check 8: the sensors' bytes and capture handles. -/
def Block.fails8 (b : Block) (c : Settings) : Bool :=
  someOf b.sensors fun _ r =>
    decide (3 < r.edge.toNat) || decide (7 < r.filter.toNat) || (r.edge ≠ 0 && !c.byteIsTrack r.capture)

/-- Check 9: the tag rules' sources, filters and gates. -/
def Block.fails9 (b : Block) : Bool :=
  someOf b.rules fun _ r =>
    decide (4 < r.source.toNat) ||
    (match indexOfSensor r.source with
      | some k => decide ((b.sensors.get k).edge = 0)
      | none => false) ||
    (r.origin ≠ 0xFF && !decide (r.origin.toNat ≤ 31)) ||
    (r.hop ≠ 0xFF && !decide (r.hop.toNat ≤ 3)) ||
    (r.gate ≠ 0xFF && !b.byteIsWindow r.gate)
where
  /-- The sensor a source byte names. -/
  indexOfSensor (x : Byte) : Option (Fin 4) := if h : x.toNat < 4 then some ⟨x.toNat, h⟩ else none

/-- Check 10: a tag rule's offset. -/
def Block.fails10 (b : Block) : Bool :=
  someOf b.rules fun _ r => !(decide (-1073741824 ≤ r.offset.toInt) && decide (r.offset.toInt ≤ 1073741824))

/-- Check 11: the cam rings. -/
def Block.fails11 (b : Block) (c : Settings) : Bool :=
  someOf b.rings fun _ r =>
    decide (16 < r.length.toNat) ||
    (r.handle ≠ 0xFF &&
      (!c.byteInUse r.handle || !inRange 1 16 r.length.toNat ||
        r.entries.any fun e => decide (e.flags.extractLsb' 0 2 = 0) || c.tooFar r.handle e.position))

/-- Check 12: the windows. -/
def Block.fails12 (b : Block) (c : Settings) : Bool :=
  someOf b.windows fun _ r =>
    r.handle ≠ 0xFF &&
      (!c.byteInUse r.handle || c.tooFar r.handle r.lower || c.tooFar r.handle r.upper ||
        ((c.ringModulus r.handle).isNone && decide (signedDifference r.upper r.lower < 0)))

/-- Check 13: a WINDOW line's followed window. -/
def Block.fails13 (b : Block) : Bool :=
  someOf b.outputs fun _ r => r.flags.getLsbD 0 && !b.byteIsWindow r.followed

/-- A present action that names a WINDOW line, or is a pulse with width 0 (R190 check 14). -/
def Settings.badAction (c : Settings) (a : Option Action) : Bool :=
  match a with
  | none => false
  | some a => decide ((c.outputs.get a.line).mode = .window) || emptyPulse a.operation

/-- Check 14: the actions of tag rules and of the rings in use. -/
def Block.fails14 (b : Block) (c : Settings) : Bool :=
  (someOf b.rules fun _ r => c.badAction r.action) ||
  (someOf b.rings fun _ r => r.handle ≠ 0xFF && r.entries.any fun e => c.badAction e.action)

/-- The numbers of the checks with whether the block fails them, in order (R190). -/
def Block.checks (b : Block) (own : Station) : List (Nat × Bool) :=
  let c := b.settings
  [ (2, b.fails2), (3, b.fails3), (4, b.fails4), (5, b.fails5 own), (6, b.fails6), (7, b.fails7 own)
  , (8, b.fails8 c), (9, b.fails9), (10, b.fails10), (11, b.fails11 c), (12, b.fails12 c)
  , (13, b.fails13), (14, b.fails14 c) ]

/-- The failing check number: the lowest that holds; `none` when the configuration is valid (R190). -/
def Block.failing (b : Block) (own : Station) : Option Nat :=
  ((b.checks own).find? fun x => x.2).map fun x => x.1

/-! ### The read pass (R188) -/

/-- The byte the device reads at address `a`: beyond what the memory answers, CFG_MISO stands at a fixed level. -/
def passByte (memory : List Byte) (miso : Bool) (a : Nat) : Byte := memory.getD a (if miso then 0xFF else 0x00)

/-- The block length as a pass reads it, from bytes 1 and 2. -/
def passLength (memory : List Byte) (miso : Bool) : Nat :=
  (be16 (passByte memory miso 1) (passByte memory miso 2)).toNat

/-- How many bytes a pass reads: the four of the header alone when the length test fails. -/
def passReads (memory : List Byte) (miso : Bool) : Nat :=
  let n := passLength memory miso
  if n < 306 ∨ 1024 < n then 4 else n

/-- The block a pass reads, `none` when it is failed: by the length test, or by the CRC over all but the last two bytes. -/
def passBlock (memory : List Byte) (miso : Bool) : Option (List Byte) :=
  let n := passLength memory miso
  if n < 306 ∨ 1024 < n then none
  else
    let l := (List.range n).map (passByte memory miso)
    if crc16 (l.take (n - 2)) = be16 (passByte memory miso (n - 2)) (passByte memory miso (n - 1)) then some l
    else none

/-! ### The end of LOADING (R191, R192) -/

/-- A local axis at the end of LOADING (R20): ACTIVE unless its mode is OFF. -/
def LocalAxis.configured (x : LocalAxis) (set : AxisSettings) : LocalAxis :=
  if set.mode = .off then x else { x with state := .active }

/-- The consumer blocks take their settings (R67, R84, R85): each sensor its qualified level from its pin. -/
def Works.configured (w : Works) (c : Settings) : Works :=
  { w with
    sensors := w.sensors.change fun _ x => { x with qualified := x.pin, pending := none }
    rings := Bank.tabulate fun r =>
      ⟨0, (c.rings.get r).armed, (c.rings.get r).entries.map fun e => e.position⟩
    windows := Bank.tabulate fun k => ⟨(c.windows.get k).lower, (c.windows.get k).upper, false⟩ }

/-- LISTENING is entered (R130): the receiver starts reading, the idle count at 0, the anchor unknown. -/
def Bus.listen (b : Bus) : Bus :=
  { b with station := .listening, anchor := none, idle := 0, byteLeft := 0, reception := .none, fresh := true
           wait := none, joined := [] }

/-- The end of LOADING with a valid configuration (R191): every block takes its settings together, the lines go from RELEASED to
FORCED (R88), and the windows hand the flags that are 1 (R85). -/
def State.configure (s : State) (c : Settings) : State :=
  let t : State :=
    { s with
      startup := { s.startup with status := .valid, failingCheck := 0 }
      cfg := c
      bus := s.bus.listen
      axes := s.axes.change fun i x => x.configured (c.axes.get i)
      rules := Bank.tabulate fun k => ⟨(c.rules.get k).offset, (c.rules.get k).armed⟩
      works := s.works.configured c }
  let u := t.refreshLines
  u.withWorks (u.works.recomputeAll u.env)

/-- The end of LOADING with an invalid configuration (R192): no setting of the block is taken. -/
def State.degrade (s : State) (check : Nat) : State :=
  { s with startup := { s.startup with status := .invalid, failingCheck := check }, bus := s.bus.listen }

/-- A read pass is judged (R189). A failed first pass is followed by a second; a failed second ends LOADING with check 1. -/
def State.judgePass (s : State) (memory : List Byte) (miso : Bool) : State :=
  match passBlock memory miso with
  | none =>
    if s.startup.passCount < 2 then { s with startup := { s.startup with passCount := s.startup.passCount + 1 } }
    else s.degrade 1
  | some l =>
    let b := blockOf l
    match b.failing s.bus.number with
    | some n => s.degrade n
    | none => s.configure b.settings

/-- The meaning of READ_PASS (R189). The memory is read during LOADING and at no other time (R193). -/
def execReadPass (memory : List Byte) (miso : Bool) (s : State) : Host.Outcome State Fault Refusal :=
  .next (if !s.held ∧ s.bus.station = .loading then s.judgePass memory miso else s)

/-! ### Cold reset (R186) -/

/-- RESET_N is asserted: the device is held in reset with every block at its cold value, a frame in flight abandoned (R128). -/
def execResetNAsserted (s : State) : Host.Outcome State Fault Refusal := .next s.cold

/-- Power is up or RESET_N is released: the straps are sampled, the station state is LOADING and the first read pass begins. The
filter of HOLD_IN_N runs from here on (R161): a pin found asserted begins a pending change. -/
def State.coldReset (s : State) (number : Station) (rate : BitVec 2) : State :=
  let t := s.cold
  { t with
    held := false
    startup := { t.startup with passCount := 1 }
    bus := Bus.cold number rate s.bus.rxd
    holdIn := { t.holdIn with pending := if t.holdIn.pin then none else some 0 } }

/-- The meaning of COLD_RESET (R186). -/
def execColdReset (number : Station) (rate : BitVec 2) (s : State) : Host.Outcome State Fault Refusal :=
  .next (s.coldReset number rate)

end Sys2Proof.Machine
end

