-- ==== Sys2Proof/Machine/Dispatch.lean ====
section
/-! DEFINITION. Which meaning each command has. -/

namespace Sys2Proof.Machine

-- What a command does to everything but the queue of waiting commands.
def exec (i : Instr) (s : State) : Host.Outcome State Fault Refusal :=
  match i with
  | .coldReset number rate => Sys2Proof.Machine.execColdReset number rate s
  | .readPass memory miso => Sys2Proof.Machine.execReadPass memory miso s
  | .quad4Edge axis a b => Sys2Proof.Machine.execQuad4Edge axis a b s
  | .pulseDirEdge axis a b => Sys2Proof.Machine.execPulseDirEdge axis a b s
  | .upDownEdge axis a b => Sys2Proof.Machine.execUpDownEdge axis a b s
  | .risingZEdge axis z => Sys2Proof.Machine.execRisingZEdge axis z s
  | .timedPulseExpiry line => Sys2Proof.Machine.execTimedPulseExpiry line s
  | .sensorPinChange sensor level => Sys2Proof.Machine.execSensorPinChange sensor level s
  | .qualifiedChange sensor => Sys2Proof.Machine.execQualifiedChange sensor s
  | .holdInChange level => Sys2Proof.Machine.execHoldInChange level s
  | .holdInQualify => Sys2Proof.Machine.execHoldInQualify s
  | .startBit sample => Sys2Proof.Machine.execStartBit sample s
  | .receiveFrame bytes => Sys2Proof.Machine.execReceiveFrame bytes s
  | .frameEndByIdle => Sys2Proof.Machine.execFrameEndByIdle s
  | .emptyBus => Sys2Proof.Machine.execEmptyBus s
  | .waitExpiry => Sys2Proof.Machine.execWaitExpiry s
  | .completion => Sys2Proof.Machine.execCompletion s
  | .abort mismatch => Sys2Proof.Machine.execAbort mismatch s
  | .readStatus requester tid page handle => Sys2Proof.Machine.execReadStatus requester tid page handle s
  | .readQueue requester tid handle index => Sys2Proof.Machine.execReadQueue requester tid handle index s
  | .trimCam requester tid ring entry position => Sys2Proof.Machine.execTrimCam requester tid ring entry position s
  | .trimRule requester tid rule offset => Sys2Proof.Machine.execTrimRule requester tid rule offset s
  | .trimWindow requester tid window lower upper => Sys2Proof.Machine.execTrimWindow requester tid window lower upper s
  | .armRule requester tid index arm start => Sys2Proof.Machine.execArmRule requester tid index arm start s
  | .armRing requester tid index arm start => Sys2Proof.Machine.execArmRing requester tid index arm start s
  | .setOrigin requester tid handle value => Sys2Proof.Machine.execSetOrigin requester tid handle value s
  | .armIndex requester tid handle value => Sys2Proof.Machine.execArmIndex requester tid handle value s
  | .armIndexCancel requester tid handle => Sys2Proof.Machine.execArmIndexCancel requester tid handle s
  | .injectEntry requester tid handle due sequence tagClass forward action => Sys2Proof.Machine.execInjectEntry requester tid handle due sequence tagClass forward action s
  | .clearQueue requester tid handle => Sys2Proof.Machine.execClearQueue requester tid handle s
  | .clearCounts requester tid => Sys2Proof.Machine.execClearCounts requester tid s
  | .pulseOutput requester tid line width => Sys2Proof.Machine.execPulseOutput requester tid line width s
  | .restart requester tid => Sys2Proof.Machine.execRestart requester tid s
  | .resetNAsserted => Sys2Proof.Machine.execResetNAsserted s
  | .unknownCommand requester tid code => Sys2Proof.Machine.execUnknownCommand requester tid code s

end Sys2Proof.Machine
end

