-- ==== Sys2Proof/Machine/Step.lean ====
section
/-! DEFINITION. One step of the station. -/

namespace Sys2Proof.Machine

/-- The command at the front of the queue acts, with the queue's rest; while none waits, one period of CLK_IN passes
(DESIGN CHOICE, log entry 5). -/
def step (s : State) : Host.Outcome State Fault Refusal :=
  match s.pending with
  | [] => .next s.tick
  | c :: rest => exec c { s with pending := rest }

/-- `s` with the command a word spells at the front of its queue; `s` itself where the word spells none (log entry 8). -/
def State.withFetchWord (s : State) (nbits w : Nat) : State :=
  match decodeTableWord nbits w with
  | none => s
  | some c => { s with pending := c :: s.pending }

end Sys2Proof.Machine
end

