-- ==== Sys2Proof/Machine/Pins.lean ====
section
/-! DEFINITION. The output pins, as the state gives them. -/

namespace Sys2Proof.Machine

/-- What the device does to a pin. -/
inductive PinDrive where
  | released | low | high
  deriving DecidableEq, Repr

/-- The pin of an output line (R87): not driven while RELEASED, else the level by the line's polarity. -/
def State.outputPin (s : State) (q : Fin 8) : PinDrive :=
  let o := s.works.outputs.get q
  match o.condition with
  | .released => .released
  | _ => if o.level ^^ (s.cfg.outputs.get q).lowActive then .high else .low

/-- The level of FAULT_OUT_N: driven low while asserted (R100), deasserted while the device is held in reset (R186). -/
def State.faultOutN (s : State) : Bool := !(s.faultOut && !s.held)

/-- BUS_DE: asserted while the own frame is in flight (R117, R125). -/
def State.busDE (s : State) : Bool := s.bus.flight.isSome

/-- The level of BUS_TXD, `n` bit times after BUS_DE was asserted (R117, R125): the bits of the own frame one after another; 1
while the device does not drive the bus. -/
def State.busTXD (s : State) (n : Nat) : Bool :=
  match s.bus.flight with
  | none => true
  | some f => (wireBits f.bytes).getD n true

/-! ### The SPI port (R186, R188, R193) -/

/-- The levels of CFG_CS_N, CFG_SCK and CFG_MOSI in one CLK_IN period; `mosi` is none where the spec states no level. -/
structure SpiPins where
  csN : Bool
  sck : Bool
  mosi : Option Bool
  deriving DecidableEq, Repr

/-- The port outside a pass: deselected, CFG_SCK at 0 (R186, R193). -/
def SpiPins.idle : SpiPins := ⟨true, false, none⟩

/-- The bytes a pass sends: the read instruction, two address bytes, and 0 for every byte it reads (R188). -/
def passSends (memory : List Byte) (miso : Bool) : List Byte :=
  [0x03, 0x00, 0x00] ++ List.replicate (passReads memory miso) 0x00

/-- One byte sent at half the CLK_IN frequency, most significant bit first: CFG_MOSI changes while CFG_SCK is at 0 and stands
while it is at 1 (R188). -/
def spiByte (b : Byte) : List SpiPins :=
  [7, 6, 5, 4, 3, 2, 1, 0].flatMap fun k => [⟨false, false, some (b.getLsbD k)⟩, ⟨false, true, some (b.getLsbD k)⟩]

/-- The port through a pass, period by period, and the 1 µs for which it is then deselected at least (R188). -/
def passPins (memory : List Byte) (miso : Bool) : List SpiPins :=
  (passSends memory miso).flatMap spiByte ++ List.replicate 20 SpiPins.idle

/-- The configuration memory is being read: LOADING, not held in reset (R188, R193). -/
def State.reading (s : State) : Bool := !s.held && decide (s.bus.station = .loading)

/-- The SPI port in the period number `t` of the pass under way, the memory answering it as READ_PASS says; deselected with CFG_SCK
at 0 while the device is held in reset and after LOADING (R186, R193). -/
def State.spiPins (s : State) (memory : List Byte) (miso : Bool) (t : Nat) : SpiPins :=
  if s.reading then (passPins memory miso).getD t SpiPins.idle else SpiPins.idle

end Sys2Proof.Machine
end

