-- ==== Sys2Proof/Safety.lean ====
section
/-! DEFINITION. The terms in which claims about the station are stated: what must always hold of its state, when a console
command is executed, and what its answer leaves. -/

namespace Sys2Proof.Machine

/-! ### What must always hold -/

/-- The counts of the notice unit are in their ranges (R195). -/
def State.CountsInRange (s : State) : Prop :=
  (∀ k, s.works.notices.counters.get k ≤ 65535) ∧ ∀ k, s.works.notices.pending.get k ≤ 255

/-- All entries of the trigger queue, handle by handle. -/
def Works.entries (w : Works) : List Entry := (List.finRange 8).flatMap fun h => w.queues.get h

/-- The trigger queue holds at most 64 entries, no two with the same origin, sequence and source (R23). -/
def State.QueueSound (s : State) : Prop :=
  s.works.entries.length ≤ 64 ∧ s.works.entries.Pairwise fun a b => a.sameKey b = false

/-- The transmit queue holds at most 12 tags and at most 4 responses (R145); no response, queued or stored in the reply cache, has
more than 12 data bytes (R153, section 8.10). -/
def State.TxSound (s : State) : Prop :=
  s.works.tagsHeld ≤ 12 ∧ s.works.responsesHeld ≤ 4 ∧
  (∀ r, .rsp r ∈ s.works.txQueue → r.data.length ≤ 12) ∧
  ∀ n x, s.command.cache.get n = some x → x.response.data.length ≤ 12

/-- The pointer of every ring in use is less than the ring's length, and the ring has a position for each entry (R69). -/
def State.RingsSound (s : State) : Prop :=
  ∀ r, (s.cfg.rings.get r).handle ≠ none →
    (s.works.rings.get r).pointer < (s.cfg.rings.get r).entries.length ∧
    (s.works.rings.get r).positions.length = (s.cfg.rings.get r).entries.length

/-- An output line shows what its condition allows (R87): level 0 while RELEASED, the safe level while FORCED, no pulse in
either; a WINDOW line has no pulse and in NORMAL shows its followed flag. -/
def Output.Shows (o : Output) (set : OutputSettings) : Prop :=
  (o.condition = .released → o.level = false ∧ o.pulse = .idle) ∧
  (o.condition = .forced → o.level = set.safe ∧ o.pulse = .idle) ∧
  (set.mode = .window → o.pulse = .idle ∧ (o.condition = .normal → o.level = o.followed))

/-- Every line is under the condition that R88 gives, and shows what it allows; LOADING is the time in which the configuration
status is PENDING (R187), and no frame is in flight in it (R130). -/
def State.LinesSound (s : State) : Prop :=
  (s.bus.station = .loading ↔ s.startup.status = .pending) ∧
  (s.bus.station = .loading → s.bus.flight = none) ∧
  ∀ q, (s.works.outputs.get q).condition = s.lineCondition ∧
    (s.works.outputs.get q).Shows (s.cfg.outputs.get q)

/-- The own roster entry is PRESENT in ROTATING and UNKNOWN in every other station state, with missed count 0 (R160). -/
def State.OwnEntrySound (s : State) : Prop :=
  (s.roster.get (stationIndex s.bus.number)).state = (if s.bus.station = .rotating then .present else .unknown) ∧
  (s.roster.get (stationIndex s.bus.number)).missed = 0

/-- A mirror is ACTIVE only while its publishing station is PRESENT (R111); no mirror subscribes an own axis (R102), and in
LOADING none is ACTIVE (R116). -/
def State.MirrorsSound (s : State) : Prop :=
  (∀ i id, (s.cfg.mirrors.get i).lineAxis = some id → publisher id ≠ s.bus.number) ∧
  (s.bus.station = .loading → ∀ i, (s.mirrors.get i).state ≠ .active) ∧
  ∀ i, (s.mirrors.get i).state = .active →
    ∃ id, (s.cfg.mirrors.get i).lineAxis = some id ∧ (s.roster.get (stationIndex (publisher id))).state = .present

/-- Every window's flag is the one R80 gives from its axis as it stands. -/
def State.WindowsSound (s : State) : Prop := ∀ k, (s.works.windows.get k).flag = s.works.windowFlag s.env k

/-- Every entry on an ACTIVE axis is due strictly ahead of it (R26). With it what it rests on: entries are held in ROTATING
alone (R42) and on TRACK axes alone (R25), and a sensor that captures does so on a TRACK axis (R44). -/
def State.EntriesAhead (s : State) : Prop :=
  (s.bus.station ≠ .rotating → ∀ h, s.works.queues.get h = []) ∧
  (∀ h, s.works.queues.get h ≠ [] → (s.cfg.geometry h).kind = .track) ∧
  (∀ k, (s.cfg.sensors.get k).edge ≠ .none → ∀ h, (s.cfg.sensors.get k).capture = some h → s.cfg.isTrack h = true) ∧
  ∀ h, s.env.active h = true → ∀ e ∈ s.works.queues.get h, isAhead e.due (s.env.position h) = true

/-! ### Console commands -/

/-- The requester and the transaction id of a console command; none for every other row. -/
def console (i : Instr) : Option (Station × Byte) :=
  match i with
  | .readStatus r t _ _ => some (r, t)
  | .readQueue r t _ _ => some (r, t)
  | .trimCam r t _ _ _ => some (r, t)
  | .trimRule r t _ _ => some (r, t)
  | .trimWindow r t _ _ _ => some (r, t)
  | .armRule r t _ _ _ => some (r, t)
  | .armRing r t _ _ _ => some (r, t)
  | .setOrigin r t _ _ => some (r, t)
  | .armIndex r t _ _ => some (r, t)
  | .armIndexCancel r t _ => some (r, t)
  | .injectEntry r t _ _ _ _ _ _ => some (r, t)
  | .clearQueue r t _ => some (r, t)
  | .clearCounts r t => some (r, t)
  | .pulseOutput r t _ _ => some (r, t)
  | .restart r t => some (r, t)
  | .unknownCommand r t _ => some (r, t)
  | .coldReset _ _ => none
  | .readPass _ _ => none
  | .quad4Edge _ _ _ => none
  | .pulseDirEdge _ _ _ => none
  | .upDownEdge _ _ _ => none
  | .risingZEdge _ _ => none
  | .timedPulseExpiry _ => none
  | .sensorPinChange _ _ => none
  | .qualifiedChange _ => none
  | .holdInChange _ => none
  | .holdInQualify => none
  | .startBit _ => none
  | .receiveFrame _ => none
  | .frameEndByIdle => none
  | .emptyBus => none
  | .waitExpiry => none
  | .completion => none
  | .abort _ => none
  | .resetNAsserted => none

/-- A command with this requester and transaction id reaches step 3 of R171: the station is ROTATING (R169), a response place is
free, and the requester's record does not hold the id. -/
structure State.Reaches (s : State) (requester : Station) (tid : Byte) : Prop where
  rotating : s.bus.station = .rotating
  place : s.works.responsesHeld < 4
  fresh : ∀ x, s.command.cache.get (stationIndex requester) = some x → x.tid ≠ tid

/-- It is judged by its own checks (R173): the configuration is valid and the requester is in the console set. -/
structure State.Executes (s : State) (requester : Station) (tid : Byte) : Prop extends s.Reaches requester tid where
  valid : s.startup.status = .valid
  permitted : s.cfg.console.getLsbD requester.toNat = true

/-- `s` with the response stored in its requester's record and queued at the tail (R174). -/
def State.responded (s : State) (x : Response) : State :=
  { s with
    command := { s.command with cache := s.command.cache.put (stationIndex x.requester) (some ⟨x.tid, x⟩) }
    works := { s.works with txQueue := s.works.txQueue ++ [.rsp x] } }

/-- The same, with COMMANDS_EXECUTED advanced (R173, R197). -/
def State.answered (s : State) (x : Response) : State :=
  { s.responded x with
    works := { (s.responded x).works with
      notices := { s.works.notices with
        counters := s.works.notices.counters.put 18 (min 65535 (s.works.notices.counters.get 18 + 1)) } } }

/-! ### Start-up -/

/-- The row brings the level of a pin: A and B, Z, a sensor, HOLD_IN_N, or BUS_RXD outside a byte. -/
def bringsLevel (i : Instr) : Bool :=
  match i with
  | .quad4Edge _ _ _ => true
  | .pulseDirEdge _ _ _ => true
  | .upDownEdge _ _ _ => true
  | .risingZEdge _ _ => true
  | .sensorPinChange _ _ => true
  | .holdInChange _ => true
  | .startBit (.level _) => true
  | _ => false

/-- A read pass fails (R188): by the length test, or because the CRC over all but the last two bytes differs from those two. -/
def PassFails (memory : List Byte) (miso : Bool) : Prop :=
  let n := passLength memory miso
  n < 306 ∨ 1024 < n ∨
    crc16 ((List.range (n - 2)).map (passByte memory miso)) ≠
      be16 (passByte memory miso (n - 2)) (passByte memory miso (n - 1))

/-- The bytes a pass reads. -/
def passBytes (memory : List Byte) (miso : Bool) : List Byte :=
  (List.range (passLength memory miso)).map (passByte memory miso)

/-! ### The bus -/

/-- The receiver takes what the bus carries: the station is not held in reset, not in LOADING, sends no frame, and BUS_RXD is not
held at 0 outside a byte (R118, R121, R125, R130, R186). -/
structure State.Hears (s : State) : Prop where
  running : s.held = false
  loaded : s.bus.station ≠ .loading
  quiet : s.bus.flight = none
  high : s.bus.rxd = true

/-- The bus after a frame end with the anchor `a`, `idle` CLK_IN periods ago (R121 to R123): a ROTATING station waits
G + d × T with d = (s − a − 1) modulo 32, an unknown anchor counting as 31. -/
def Bus.afterFrame (b : Bus) (a : Option Station) (idle : Nat) : Bus :=
  { b with
    anchor := a
    idle := idle
    byteLeft := 0
    reception := .none
    fresh := false
    wait :=
      if b.station = .rotating then
        some ⟨24 + 64 * ((b.number.toNat + 31 - (match a with
          | none => 31
          | some x => x.toNat) + 32) % 32), idle⟩
      else none }

/-- The pair (anchor, k) reveals a miss of station `j` (R158): the anchor is known, `j` lies strictly between it and k in the order
of the rotation, its entry is PRESENT, and it is not the own number. -/
def State.Missed (s : State) (anchor : Option Station) (k j : Station) : Prop :=
  ∃ a, anchor = some a ∧ 1 ≤ (j.toNat + 32 - a.toNat) % 32 ∧
    (j.toNat + 32 - a.toNat) % 32 ≤ (k.toNat + 63 - a.toNat) % 32 ∧
    (s.roster.get (stationIndex j)).state = .present ∧ j ≠ s.bus.number

/-- What a miss leaves of a roster entry (R158, R159). -/
def State.missedEntry (s : State) (e : RosterEntry) : RosterEntry :=
  if e.missed + 1 < s.cfg.absentLimit then { e with missed := e.missed + 1 }
  else { e with state := .absent, missed := s.cfg.absentLimit }

/-! ### The consumers of an event -/

/-- The notice unit after `n` raisings of a kind (R195), one after another. -/
def Notices.raised (x : Notices) (mask : BitVec 16) (k : NoticeKind) (n : Nat) : Notices :=
  (List.replicate n k).foldl (fun x k => x.raise mask k) x

/-- The lines with each DISTANCE pulse on `h` ended whose release position `ends` names: level 0, pulse IDLE (R95, R96). -/
def releasedOn (h : Handle) (ends : Pos → Bool) (lines : Bank Output 8) : Bank Output 8 :=
  Bank.tabulate fun q =>
    match (lines.get q).pulse with
    | .distance h' p => if h' = h ∧ ends p = true then { lines.get q with level := false, pulse := .idle } else lines.get q
    | _ => lines.get q

/-- From `w` to `t` the windows on `h` recompute (R81): each takes the flag of the axis as it stands, every other window stays as it
was, and each line, `lines` being what the event has made of them, stays but for one that follows a window whose flag
changed, which takes the flag (R99). -/
def Works.WindowsFollow (w : Works) (env : Env) (h : Handle) (lines : Bank Output 8) (t : Works) : Prop :=
  (∀ k, t.windows.get k =
    if (env.cfg.windows.get k).handle = some h then { w.windows.get k with flag := w.windowFlag env k }
    else w.windows.get k) ∧
  ∀ q,
    let o := lines.get q
    let changed (k : Fin 8) : Prop := (env.cfg.outputs.get q).mode = .window ∧ (env.cfg.outputs.get q).followed = some k ∧
      (env.cfg.windows.get k).handle = some h ∧ w.windowFlag env k ≠ (w.windows.get k).flag
    ((∀ k, ¬changed k) → t.outputs.get q = o) ∧
    ∀ k, changed k → t.outputs.get q =
      { o with followed := w.windowFlag env k, level := if o.condition = .normal then w.windowFlag env k else o.level }

/-- The lines of `t`, which were `lines` before the condition that R88 gives them was derived anew: those under another condition
come under it with pulse IDLE, at level 0 when RELEASED, at the safe level when FORCED (R89), and in NORMAL at level 0 on an
ACTION line, whatever its safe level, and at the followed flag on a WINDOW line (R90). -/
def State.LinesTake (t : State) (lines : Bank Output 8) : Prop :=
  ∀ q,
    let o := lines.get q
    let set := t.cfg.outputs.get q
    let comesUnder (c : Condition) (level : Bool) : Prop :=
      t.works.outputs.get q = if o.condition = c then o else { o with condition := c, level := level, pulse := .idle }
    (t.startup.status ≠ .valid → comesUnder .released false) ∧
    (t.startup.status = .valid → t.run = false → comesUnder .forced set.safe) ∧
    (t.startup.status = .valid → t.run = true → comesUnder .normal (if set.mode = .action then false else o.followed))

/-! ### The roster and the mirrors -/

/-- Mirror `i` goes STALE (R111): MIRROR_STALE is raised once, and the change to a state other than ACTIVE delivered. -/
def State.goesStale (s : State) (i : Fin 6) : State :=
  State.stopsBeingActive
    (State.raise { s with mirrors := s.mirrors.put i { s.mirrors.get i with state := .stale } } .mirrorStale) (mirrorHandle i)

/-- From `s` to `t` the mirrors `l` go STALE and the stations `gone` go ABSENT: each of the first raises MIRROR_STALE once
(counter 11; R111, R112), each of the second STATION_LOST once (counter 13; R159), and no other notice is raised. The windows
on the handles of the mirrors read 0, the distance pulses on them are released (R96), the lines that follow the windows take
a flag that was 1, and every line takes the condition of `t`. -/
def State.Loses (s t : State) (l : List (Fin 6)) (gone : List Station) : Prop :=
  let lost (h : Handle) : Bool := l.any fun i => decide (mirrorHandle i = h)
  let raised (k : Fin 19) (n : Nat) : Prop :=
    s.works.notices.counters.get k ≤ 65535 →
      t.works.notices.counters.get k = min 65535 (s.works.notices.counters.get k + n)
  (∀ i, t.mirrors.get i = if i ∈ l then { s.mirrors.get i with state := .stale } else s.mirrors.get i) ∧
  raised 11 l.length ∧ raised 13 gone.length ∧
  (∀ k, k ≠ 11 → k ≠ 13 → k ≠ 16 → k ≠ 17 →
    t.works.notices.counters.get k = s.works.notices.counters.get k) ∧
  (∀ k, t.works.windows.get k =
    if (s.cfg.windows.get k).handle.any lost then { s.works.windows.get k with flag := false } else s.works.windows.get k) ∧
  (s.LinesSound → ∃ lines, t.LinesTake lines ∧ ∀ q,
    let o := s.works.outputs.get q
    let o' := match o.pulse with
      | .distance h _ => if lost h then { o with level := false, pulse := .idle } else o
      | _ => o
    lines.get q =
      if (s.cfg.outputs.get q).mode = .window ∧ (s.cfg.outputs.get q).followed.any (fun k =>
          (s.works.windows.get k).flag && (s.cfg.windows.get k).handle.any lost) = true then
        { o' with followed := false, level := if o'.condition = .normal then false else o'.level }
      else o')

/-- The stations that the misses of the pair (anchor, k) bring to the absent limit (R159). -/
def State.GoneBy (s : State) (anchor : Option Station) (k : Station) (gone : List Station) : Prop :=
  gone.Nodup ∧ ∀ j, j ∈ gone ↔
    s.Missed anchor k j ∧ s.cfg.absentLimit ≤ (s.roster.get (stationIndex j)).missed + 1

/-! ### The encoders -/

/-- The pair (A, B) that follows in forward order (R12): 00, 10, 11, 01. -/
def quadNext (x : Bool × Bool) : Bool × Bool :=
  match x with
  | (false, false) => (true, false)
  | (true, false) => (true, true)
  | (true, true) => (false, true)
  | (false, true) => (false, false)

/-- `s` with the reference levels of A and B of local axis `i` at the new sample (R11). -/
def State.sampled (s : State) (i : Fin 2) (a b : Bool) : State :=
  s.withAxis i { s.axes.get i with refA := a, refB := b }

/-- One count in direction `d` before inversion, applied to local axis `i` and delivered (R15). -/
def State.counted (s : State) (i : Fin 2) (d : Direction) : State :=
  let x := s.axes.get i
  let d' := if (s.cfg.axes.get i).invert then opposite d else d
  let p := stepPosition ⟨(s.cfg.axes.get i).kind, (s.cfg.axes.get i).modulus⟩ d' x.position
  (s.withAxis i { x with position := p, lastDirection := some d' }).positionEvent (localHandle i) ⟨x.position, p, d', 1⟩

end Sys2Proof.Machine
end

