-- ==== Sys2Proof/Certificates/Slice0/Obligations.lean ====
section
/-! DEFINITION. The statements about the station, for the provers. -/

open Sys2Proof Sys2Proof.Machine

/-! ### Steps -/

/-- The command at the front of the queue acts with the queue's rest; on an empty queue one CLK_IN period passes (the model's
choice, log entries 1 and 5). -/
def Obligations.StepTakesFront : Prop :=
  ∀ s : State,
    (∀ c rest, step { s with pending := c :: rest } = exec c { s with pending := rest }) ∧
    step { s with pending := [] } = .next (State.tick { s with pending := [] })

/-- Every command completes from every state (95_what_each_step_holds.md). It leaves the queue of waiting commands as it was and does
not read it: the queue is the model's own, not the spec's (log entry 1, a design choice). -/
def Obligations.EveryCommandCompletes : Prop :=
  ∀ (c : Instr) (s : State) (l : List Instr),
    ∃ t, exec c s = .next t ∧ t.pending = s.pending ∧
      exec c { s with pending := l } = .next { t with pending := l }

/-! ### Reset and start-up -/

/-- COLD_RESET samples the straps, puts every block to its cold value and begins LOADING with the first pass. That the pins keep their
levels is the model's choice (log entry 4), that the commands which wait still wait too (log entry 1); that a HOLD_IN_N found
asserted begins a pending change (R161), and that the row acts on a running station as RESET_N asserted and released, is
deduced (log entry 14). -/
def Obligations.ColdResetStartsLoading : Prop :=
  ∀ (s : State) (number : Station) (rate : BitVec 2),
    ∃ t, exec (.coldReset number rate) s = .next t ∧
      t.held = false ∧ t.pending = s.pending ∧
      t.startup = ⟨.pending, 0, 1⟩ ∧
      t.bus = ⟨.loading, number, rate, none, 0, 0, .none, false, none, [], none, s.bus.rxd⟩ ∧
      (∀ i, t.axes.get i =
        ⟨0, 0, .off, none, none, (s.axes.get i).refA, (s.axes.get i).refB, (s.axes.get i).refZ⟩) ∧
      (∀ i, t.mirrors.get i = ⟨.unseen, 0, 0, none⟩) ∧
      t.nextSequence = 0 ∧
      (∀ k, t.works.sensors.get k = ⟨(s.works.sensors.get k).pin, false, none, 0⟩) ∧
      (∀ h, t.works.queues.get h = []) ∧ t.works.nextStamp = 0 ∧ t.works.txQueue = [] ∧
      (∀ r, (t.works.rings.get r).pointer = 0) ∧ (∀ k, (t.works.windows.get k).flag = false) ∧
      (∀ q, t.works.outputs.get q = ⟨.released, false, .idle, false⟩) ∧
      (∀ k, t.works.notices.pending.get k = 0) ∧ (∀ k, t.works.notices.counters.get k = 0) ∧
      (∀ n, t.roster.get n = ⟨.unknown, 0, false⟩) ∧
      (∀ n, t.command.cache.get n = none) ∧ t.command.restartPending = false ∧
      t.holdIn.pin = s.holdIn.pin ∧ t.holdIn.asserted = false ∧
      t.holdIn.pending = (if s.holdIn.pin then none else some 0) ∧
      t.run = false ∧ t.faultOut = false

/-- RESET_N holds the device: every output line is released, BUS_DE and FAULT_OUT_N are deasserted, BUS_TXD is at 1, the SPI port is
deselected with CFG_SCK at 0, no frame is in flight, and the station number and the bit rate are kept until they are sampled.
From then on, until COLD_RESET, a row that brings the level of a pin changes the level remembered alone, every other row finds
nothing to act on, and no time passes: that no row acts while the device is held is deduced from R186 (log entry 14), that pins
keep their levels and waiting commands wait is the model's choice (log entries 4 and 1). -/
def Obligations.ResetHoldsTheDevice : Prop :=
  ∀ s : State,
    ∃ t, exec .resetNAsserted s = .next t ∧
      t.held = true ∧ t.pending = s.pending ∧ t.startup = ⟨.pending, 0, 0⟩ ∧
      t.bus = ⟨.loading, s.bus.number, s.bus.rate, none, 0, 0, .none, false, none, [], none, s.bus.rxd⟩ ∧
      (∀ q, t.outputPin q = .released) ∧ t.busDE = false ∧ (∀ n, t.busTXD n = true) ∧ t.faultOutN = true ∧
      (∀ memory miso n, t.spiPins memory miso n = ⟨true, false, none⟩) ∧
      (∀ h, t.works.queues.get h = []) ∧ t.works.txQueue = [] ∧
      (∀ n, t.roster.get n = ⟨.unknown, 0, false⟩) ∧ (∀ i, (t.axes.get i).state = .off) ∧
      (∀ i a b, exec (.quad4Edge i a b) t = .next (t.sampled i a b) ∧
        exec (.pulseDirEdge i a b) t = .next (t.sampled i a b) ∧ exec (.upDownEdge i a b) t = .next (t.sampled i a b)) ∧
      (∀ i z, exec (.risingZEdge i z) t = .next { t with axes := t.axes.put i { t.axes.get i with refZ := z } }) ∧
      (∀ k level, exec (.sensorPinChange k level) t = .next
        { t with works := { t.works with sensors := t.works.sensors.put k { t.works.sensors.get k with pin := level } } }) ∧
      (∀ level, exec (.holdInChange level) t = .next { t with holdIn := { t.holdIn with pin := level } }) ∧
      (∀ level, exec (.startBit (.level level)) t = .next { t with bus := { t.bus with rxd := level } }) ∧
      (∀ i : Instr, (∀ number rate, i ≠ .coldReset number rate) → bringsLevel i = false → exec i t = .next t) ∧
      t.tick = t

/-- A failed pass: the first is followed by a second; a failed second ends LOADING INVALID with check 1. A block that a pass has
read and that fails a check ends LOADING INVALID with the lowest failing check. Either way no setting is taken and the station
is LISTENING, the idle count at 0. A pass sends 03h 00h 00h and then 00h for each byte it reads, four alone when the length test
fails, most significant bit first, CFG_SCK at 0 and then at 1 in each bit; then the port is deselected. Outside LOADING the
memory is not read, and the port stands deselected with CFG_SCK at 0. -/
def Obligations.FailedLoading : Prop :=
  ∀ (s : State) (memory : List Byte) (miso : Bool),
    let ended (check : Nat) : State :=
      { s with
        startup := { s.startup with status := .invalid, failingCheck := check }
        bus := { s.bus with
          station := .listening, anchor := none, idle := 0, byteLeft := 0, reception := .none, fresh := true
          wait := none, joined := [] } }
    (s.held = false → s.bus.station = .loading → PassFails memory miso →
      exec (.readPass memory miso) s = .next
        (if s.startup.passCount < 2 then
          { s with startup := { s.startup with passCount := s.startup.passCount + 1 } }
        else ended 1)) ∧
    (∀ n, s.held = false → s.bus.station = .loading → ¬PassFails memory miso →
      (n, true) ∈ (blockOf (passBytes memory miso)).checks s.bus.number →
      (∀ m < n, (m, true) ∉ (blockOf (passBytes memory miso)).checks s.bus.number) →
        exec (.readPass memory miso) s = .next (ended n)) ∧
    (s.held = true ∨ s.bus.station ≠ .loading →
      exec (.readPass memory miso) s = .next s ∧ ∀ n, s.spiPins memory miso n = ⟨true, false, none⟩) ∧
    (s.held = false → s.bus.station = .loading →
      let n := passLength memory miso
      let bytes := 3 + if n < 306 ∨ 1024 < n then 4 else n
      ∀ t,
        (t < 16 * bytes → s.spiPins memory miso t =
          ⟨false, decide (t % 2 = 1), some (decide (t = 12 ∨ t = 13 ∨ t = 14 ∨ t = 15))⟩) ∧
        (16 * bytes ≤ t → s.spiPins memory miso t = ⟨true, false, none⟩))

/-- A block that passes every check ends LOADING VALID: every block takes its settings together and the station is
LISTENING, its axes counting and its lines at their safe levels; a line that follows a window takes the flag into its followed
flag when the window hands a 1 at that moment (R85, R101), and keeps what it has, 0 after a cold reset, when it hands none. -/
def Obligations.ValidBlock : Prop :=
  ∀ (s : State) (memory : List Byte) (miso : Bool),
    s.held = false → s.bus.station = .loading → ¬PassFails memory miso →
    (∀ n, (n, true) ∉ (blockOf (passBytes memory miso)).checks s.bus.number) →
      ∃ t, exec (.readPass memory miso) s = .next t ∧
        t = { s with startup := t.startup, cfg := t.cfg, bus := t.bus, axes := t.axes, rules := t.rules, works := t.works } ∧
        t.startup = { s.startup with status := .valid, failingCheck := 0 } ∧
        t.cfg = (blockOf (passBytes memory miso)).settings ∧
        t.bus = { s.bus with
          station := .listening, anchor := none, idle := 0, byteLeft := 0, reception := .none, fresh := true
          wait := none, joined := [] } ∧
        (∀ i, t.axes.get i =
          if (t.cfg.axes.get i).mode = .off then s.axes.get i else { s.axes.get i with state := .active }) ∧
        (∀ k, t.rules.get k = ⟨(t.cfg.rules.get k).offset, (t.cfg.rules.get k).armed⟩) ∧
        (∀ k, t.works.sensors.get k =
          { s.works.sensors.get k with qualified := (s.works.sensors.get k).pin, pending := none }) ∧
        (∀ r, t.works.rings.get r =
          ⟨0, (t.cfg.rings.get r).armed, (t.cfg.rings.get r).entries.map fun e => e.position⟩) ∧
        (∀ k, (t.works.windows.get k).lower = (t.cfg.windows.get k).lower ∧
          (t.works.windows.get k).upper = (t.cfg.windows.get k).upper ∧
          (t.works.windows.get k).flag = t.works.windowFlag t.env k) ∧
        (∀ q, (s.works.outputs.get q).condition = .released →
          (t.works.outputs.get q).condition = .forced ∧
          (t.works.outputs.get q).level = (t.cfg.outputs.get q).safe ∧ (t.works.outputs.get q).pulse = .idle) ∧
        (∀ q, (t.works.outputs.get q).followed =
          ((s.works.outputs.get q).followed || decide ((t.cfg.outputs.get q).mode = .window) &&
            (t.cfg.outputs.get q).followed.any fun k => (t.works.windows.get k).flag)) ∧
        t.works.queues = s.works.queues ∧ t.works.txQueue = s.works.txQueue ∧ t.works.notices = s.works.notices

/-- What checks 2 to 14 of R190 give the rest of the station, each in a clause of its own but those on bytes that the settings do
not keep: the version and length of the block, the ranges, the moduli, the ids, the handles and windows in use, and the
actions that the station's rules rely on. -/
def Obligations.CheckedSettings : Prop :=
  ∀ (l : List Byte) (own : Station),
    (∀ n, (n, true) ∉ (blockOf l).checks own) →
    let c := (blockOf l).settings
    let admitted (a : Option Action) : Prop := ∀ x, a = some x →
      (c.outputs.get x.line).mode = .action ∧ x.operation ≠ .pulseTime 0 ∧ x.operation ≠ .pulseDist 0
    (blockOf l).version = 1 ∧
    (blockOf l).length.toNat = 306 + 8 * (((blockOf l).rings.get 0).length.toNat + ((blockOf l).rings.get 1).length.toNat +
      ((blockOf l).rings.get 2).length.toNat + ((blockOf l).rings.get 3).length.toNat) ∧
    (1 ≤ c.absentLimit ∧ c.absentLimit ≤ 7) ∧ (1 ≤ c.jumpLimit ∧ c.jumpLimit ≤ 16777216) ∧
    c.console.getLsbD own.toNat = false ∧
    (∀ i, (c.axes.get i).kind = .ring → 2 ≤ (c.axes.get i).modulus ∧ (c.axes.get i).modulus ≤ 16777216) ∧
    (∀ i, (c.mirrors.get i).lineAxis ≠ none → (c.mirrors.get i).kind = .ring →
      2 ≤ (c.mirrors.get i).modulus ∧ (c.mirrors.get i).modulus ≤ 16777216) ∧
    (∀ i id, (c.mirrors.get i).lineAxis = some id → publisher id ≠ own) ∧
    (∀ i j id, (c.mirrors.get i).lineAxis = some id → (c.mirrors.get j).lineAxis = some id → i = j) ∧
    (∀ k, (c.sensors.get k).edge ≠ .none → ∃ h, (c.sensors.get k).capture = some h ∧ c.isTrack h = true) ∧
    (∀ k j, (c.rules.get k).source = .sensor j → (c.sensors.get j).edge ≠ .none) ∧
    (∀ k g, (c.rules.get k).gate = some g → (c.windows.get g).handle ≠ none) ∧
    (∀ k, -1073741824 ≤ (c.rules.get k).offset.toInt ∧ (c.rules.get k).offset.toInt ≤ 1073741824) ∧
    (∀ r h, (c.rings.get r).handle = some h →
      c.inUse h = true ∧ 1 ≤ (c.rings.get r).entries.length ∧ (c.rings.get r).entries.length ≤ 16 ∧
      ((c.geometry h).kind = .ring → ∀ e ∈ (c.rings.get r).entries, e.position.toNat < (c.geometry h).modulus)) ∧
    (∀ k h, (c.windows.get k).handle = some h →
      let lower := (c.windows.get k).lower
      let upper := (c.windows.get k).upper
      c.inUse h = true ∧ ((c.geometry h).kind = .track → 0 ≤ signedDifference upper lower) ∧
      ((c.geometry h).kind = .ring → lower.toNat < (c.geometry h).modulus ∧ upper.toNat < (c.geometry h).modulus)) ∧
    (∀ q, (c.outputs.get q).mode = .window →
      ∃ k, (c.outputs.get q).followed = some k ∧ (c.windows.get k).handle ≠ none) ∧
    (∀ k, admitted (c.rules.get k).action) ∧
    (∀ r, ∀ e ∈ (c.rings.get r).entries, admitted e.action)

/-! ### The encoders -/

/-- A sample of A and B on an ACTIVE QUAD4 axis: a step forward or backward in the order of R12 counts, a change of both is an
encoder fault (R14), by which the axis's windows read 0 and the lines that follow them take that, its distance pulses are
released (R96), FAULT_OUT_N is asserted and, with hold on local fault, the line is held and every line of a valid station
FORCED, and an equal pair counts nothing. On an axis not ACTIVE the sample sets the reference levels alone (R11). -/
def Obligations.Quad4Sample : Prop :=
  ∀ (s : State) (i : Fin 2) (a b : Bool),
    let x := s.axes.get i
    ((s.cfg.axes.get i).mode = .quad4 → x.state = .active →
      ((a, b) = (x.refA, x.refB) → exec (.quad4Edge i a b) s = .next (s.sampled i a b)) ∧
      ((a, b) = quadNext (x.refA, x.refB) → exec (.quad4Edge i a b) s = .next ((s.sampled i a b).counted i .fwd)) ∧
      ((x.refA, x.refB) = quadNext (a, b) → exec (.quad4Edge i a b) s = .next ((s.sampled i a b).counted i .rev)) ∧
      (a ≠ x.refA ∧ b ≠ x.refB →
        ∃ t, exec (.quad4Edge i a b) s = .next t ∧
          t.axes = s.axes.put i { x with state := .faulted, refA := a, refB := b } ∧
          t = { s with axes := t.axes, works := t.works } ∧
          t.works.queues = s.works.queues ∧ t.works.txQueue = s.works.txQueue ∧
          t.works.rings = s.works.rings ∧ t.works.sensors = s.works.sensors ∧
          (∀ k, (t.works.windows.get k).flag =
            if (s.cfg.windows.get k).handle = some (localHandle i) then false else (s.works.windows.get k).flag) ∧
          (∃ u, s.works.WindowsFollow t.env (localHandle i)
              (releasedOn (localHandle i) (fun _ => true) s.works.outputs) u ∧
            t.works.windows = u.windows ∧ t.LinesTake u.outputs) ∧
          (s.cfg.holdOnFault = true → s.startup.status = .valid → ∀ q, (t.works.outputs.get q).condition = .forced) ∧
          t.works.notices = s.works.notices.raise s.cfg.noticeMask .encoderFault ∧
          t.axisFault = true ∧ (s.held = false → t.faultOutN = false) ∧
          (s.cfg.holdOnFault = true → t.run = false))) ∧
    (x.state ≠ .active → exec (.quad4Edge i a b) s = .next (s.sampled i a b))

/-- On an ACTIVE PULSE_DIR axis a rising A counts, B giving the direction, and nothing else does. On an ACTIVE UP_DOWN axis a rising
A counts forward and a rising B backward; both together count twice, in one order or the other, and either way the axis
ends where it was. Which order it is the model takes from a free value and counts in works.choice (log entry 2, a design
choice). On an axis not ACTIVE a sample sets the reference levels alone (R11). -/
def Obligations.PulseSamples : Prop :=
  (∀ (s : State) (i : Fin 2) (a b : Bool),
      ((s.cfg.axes.get i).mode = .pulseDir → (s.axes.get i).state = .active →
        exec (.pulseDirEdge i a b) s = .next
          (if (s.axes.get i).refA = false ∧ a = true then
            (s.sampled i a b).counted i (if b then .rev else .fwd)
          else s.sampled i a b)) ∧
      ((s.axes.get i).state ≠ .active → exec (.pulseDirEdge i a b) s = .next (s.sampled i a b))) ∧
  (∀ (s : State) (i : Fin 2) (a b : Bool),
      let x := s.axes.get i
      let u := s.sampled i a b
      let v := u.withWorks { u.works with choice := u.works.choice + 1 }
      ((s.cfg.axes.get i).mode = .upDown → x.state = .active →
        (¬(x.refA = false ∧ a = true) → ¬(x.refB = false ∧ b = true) → exec (.upDownEdge i a b) s = .next u) ∧
        (x.refA = false ∧ a = true → ¬(x.refB = false ∧ b = true) →
          exec (.upDownEdge i a b) s = .next (u.counted i .fwd)) ∧
        (¬(x.refA = false ∧ a = true) → x.refB = false ∧ b = true →
          exec (.upDownEdge i a b) s = .next (u.counted i .rev)) ∧
        (x.refA = false ∧ a = true → x.refB = false ∧ b = true →
          (exec (.upDownEdge i a b) s = .next ((v.counted i .fwd).counted i .rev) ∨
           exec (.upDownEdge i a b) s = .next ((v.counted i .rev).counted i .fwd)) ∧
          ((s.cfg.axes.get i).kind = .track ∨
              (2 ≤ (s.cfg.axes.get i).modulus ∧ (s.cfg.axes.get i).modulus ≤ 16777216 ∧
                x.position.toNat < (s.cfg.axes.get i).modulus) →
            ∃ t, exec (.upDownEdge i a b) s = .next t ∧ (t.axes.get i).position = x.position))) ∧
      (x.state ≠ .active → exec (.upDownEdge i a b) s = .next u))

/-- A count steps the position by one with the wrap of the kind, sets the last direction, keeps every other part of the axes and
of the station but the consumer blocks, and delivers a position event of distance 1. -/
def Obligations.CountSteps : Prop :=
  ∀ (s : State) (i : Fin 2) (d : Direction),
    let x := s.axes.get i
    let g := s.cfg.geometry (localHandle i)
    let d' := if (s.cfg.axes.get i).invert then opposite d else d
    ∃ p, (s.counted i d).axes = s.axes.put i { x with position := p, lastDirection := some d' } ∧
      s.counted i d = { s with axes := (s.counted i d).axes, works := (s.counted i d).works } ∧
      (s.counted i d).works =
        s.works.positionEvent { s.env with axes := (s.counted i d).axes } (localHandle i) ⟨x.position, p, d', 1⟩ ∧
      (g.kind = .track → p = if d' = .fwd then x.position + 1 else x.position - 1) ∧
      (g.kind = .ring → 2 ≤ g.modulus → g.modulus ≤ 16777216 → x.position.toNat < g.modulus →
        p.toNat = if d' = .fwd then (x.position.toNat + 1) % g.modulus
          else (x.position.toNat + g.modulus - 1) % g.modulus)

/-- A rising Z edge of an armed axis in ACTIVE or FAULTED is the origin event with the armed value; every other sample of Z sets
the reference level alone. -/
def Obligations.RisingZ : Prop :=
  ∀ (s : State) (i : Fin 2) (z : Bool),
    let x := s.axes.get i
    (x.refZ = false → z = true → x.state ≠ .off → ∀ v, x.arm = some v →
      exec (.risingZEdge i z) s = .next ((s.withAxis i { x with refZ := true }).originEvent i v)) ∧
    (x.refZ = true ∨ z = false ∨ x.state = .off ∨ x.arm = none →
      exec (.risingZEdge i z) s = .next (s.withAxis i { x with refZ := z }))

/-- The origin event of a local axis: the position is the value, the epoch advances, the axis is ACTIVE with no direction and a
clear arm; the handle's entries are discarded, its rings stand at entry 0, its lockouts end, its distance pulses are
released, and nothing is crossed or forwarded. The lines that follow its windows take a changed flag,
and every line the condition of the station as it then is, for the end of a fault may end a hold (R162, R90). -/
def Obligations.OriginEvent : Prop :=
  ∀ (s : State) (i : Fin 2) (v : Pos),
    let t := s.originEvent i v
    let h := localHandle i
    t.axes = s.axes.put i
      { s.axes.get i with
        position := v, epoch := (s.axes.get i).epoch + 1, state := .active, lastDirection := none, arm := none } ∧
    t = { s with axes := t.axes, works := t.works } ∧
    t.works.queues = s.works.queues.put h [] ∧
    t.works.txQueue = s.works.txQueue ∧
    (∀ r, t.works.rings.get r =
      if (s.cfg.rings.get r).handle = some h then { s.works.rings.get r with pointer := 0 }
      else s.works.rings.get r) ∧
    (∀ k, t.works.sensors.get k =
      if (s.cfg.sensors.get k).capture = some h then { s.works.sensors.get k with lockout := 0 }
      else s.works.sensors.get k) ∧
    (∀ k, (t.works.windows.get k).flag =
      if (s.cfg.windows.get k).handle = some h then t.works.windowFlag t.env k
      else (s.works.windows.get k).flag) ∧
    (∀ q p, (s.works.outputs.get q).pulse = .distance h p → (t.works.outputs.get q).pulse = .idle) ∧
    (∃ u, s.works.WindowsFollow t.env h (releasedOn h (fun _ => true) s.works.outputs) u ∧
      t.works.windows = u.windows ∧ t.LinesTake u.outputs) ∧
    ((s.works.notices.counters.get 6) ≤ 65535 →
      t.works.notices.counters.get 6 =
        min 65535 (s.works.notices.counters.get 6 + (s.works.queues.get h).length)) ∧
    ∀ j, j ≠ 6 → t.works.notices.counters.get j = s.works.notices.counters.get j

/-! ### The consumers of a move -/

/-- A position event on an ACTIVE handle takes from its queue exactly the entries the move crosses (forward) or carries out of range
(backward), and leaves every other handle's entries. The crossed ones are fired, or in HOLD suppressed, one by one in queue
order; their forwardings are admitted to the transmit queue while fewer than 12 tags are held, and each one beyond raises
TX_FULL. Each entry carried out of range raises MISSED and forwards nothing. No other notice is raised. -/
def Obligations.PositionEventQueue : Prop :=
  ∀ (w : Works) (env : Env) (h : Handle) (m : Move) (id : BitVec 6), env.active h = true →
    let t := w.positionEvent env h m
    let crossed := (w.queues.get h).filter fun e => crosses (env.cfg.geometry h) m e.due
    let forwarded := crossed.filter fun e => e.forward && decide (e.hop ≠ 3)
    let overrun := (w.queues.get h).filter fun e => decide (2147483647 < e.distanceAhead m.old + (m.distance : Int))
    let raised (k : Fin 19) (n : Nat) : Prop :=
      w.notices.counters.get k ≤ 65535 → t.notices.counters.get k = min 65535 (w.notices.counters.get k + n)
    (∀ h', h' ≠ h → t.queues.get h' = w.queues.get h') ∧ t.nextStamp = w.nextStamp ∧
    (∀ k, k ≠ 4 → k ≠ 5 → k ≠ 8 → t.notices.counters.get k = w.notices.counters.get k) ∧
    (m.dir = .fwd →
      t.queues.get h = ((w.queues.get h).filter fun e => !crosses (env.cfg.geometry h) m e.due) ∧
      raised 4 0 ∧ raised 5 (if env.run then 0 else crossed.length) ∧
      (env.lineAxis h = some id →
        t.txQueue = w.txQueue ++ (forwarded.take (12 - w.tagsHeld)).map (fun e =>
          .tag ⟨e.origin, e.sequence, e.tagClass, e.hop + 1, id, e.epoch, e.due⟩) ∧
        raised 8 (forwarded.length - (12 - w.tagsHeld)))) ∧
    (m.dir = .rev →
      t.queues.get h =
        ((w.queues.get h).filter fun e => decide (e.distanceAhead m.old + (m.distance : Int) ≤ 2147483647)) ∧
      t.txQueue = w.txQueue ∧ raised 4 overrun.length ∧ raised 5 0 ∧ raised 8 0)

/-- At a position event the lockouts counted on the handle run down with forward motion, every ring walks it or stands, and every
window on the handle takes the flag of the new position. On an ACTIVE handle, each output line first takes the release of a
distance pulse whose release position a forward move crosses; then, in RUN, the actions reach their lines: those of the
entries a forward move crosses, in queue order, and those of the enabled entries each ring takes, in ring order, these lists
one after another in some order; and last the lines that follow a window take a changed flag. -/
def Obligations.PositionEventOthers : Prop :=
  ∀ (w : Works) (env : Env) (h : Handle) (m : Move),
    let t := w.positionEvent env h m
    let g := env.cfg.geometry h
    let walk (r : Fin 4) := walkRing (env.cfg.rings.get r).entries (w.rings.get r).positions g m
      (env.cfg.rings.get r).entries.length (w.rings.get r).pointer
    let evaluates (r : Fin 4) : Bool :=
      decide ((env.cfg.rings.get r).handle = some h) && (w.rings.get r).armed && env.active h
    (∀ k, t.sensors.get k =
      if (env.cfg.sensors.get k).capture = some h ∧ m.dir = .fwd then
        { w.sensors.get k with lockout := (w.sensors.get k).lockout - m.distance }
      else w.sensors.get k) ∧
    (∀ r, t.rings.get r =
      if evaluates r then { w.rings.get r with pointer := (walk r).1 } else w.rings.get r) ∧
    (∀ k, t.windows.get k =
      if (env.cfg.windows.get k).handle = some h then { w.windows.get k with flag := w.windowFlag env k }
      else w.windows.get k) ∧
    (env.active h = true →
      let fired : List Action :=
        if env.run = true ∧ m.dir = .fwd then
          ((w.queues.get h).filter fun e => crosses g m e.due).filterMap fun e => e.action
        else []
      let taken (r : Fin 4) : List Action :=
        if env.run && evaluates r then ((walk r).2.filter fun e => e.enable).filterMap fun e => e.action else []
      let released : Bank Output 8 := Bank.tabulate fun q =>
        let o := w.outputs.get q
        match o.pulse with
        | .distance h' p =>
          if h' = h ∧ m.dir = .fwd ∧ crosses g m p then { o with level := false, pulse := .idle } else o
        | _ => o
      ∃ order : List (List Action), order.Perm (fired :: (List.finRange 4).map taken) ∧
        ∀ q,
          let o := (order.flatten.foldl (fun w a => Works.act w env (some h) a) { w with outputs := released }).outputs.get q
          ((env.cfg.outputs.get q).mode = .action → t.outputs.get q = o) ∧
          ((env.cfg.outputs.get q).mode = .window → ∀ k, (env.cfg.outputs.get q).followed = some k →
            t.outputs.get q =
              if (env.cfg.windows.get k).handle = some h ∧ w.windowFlag env k ≠ (w.windows.get k).flag then
                { o with
                  followed := w.windowFlag env k
                  level := if o.condition = .normal then w.windowFlag env k else o.level }
              else o))

/-- A silent passage withholds every action: no tag is forwarded, an ACTION line is touched only by the release of a distance
pulse it runs, and each entry it takes from the queue is counted MISSED, no other notice being raised. Forward motion lessens
the lockouts counted on the handle as a position event does, the rings walk on, and the windows on the handle take the flag of
the new position, which the lines that follow them take with it. Nothing else changes. -/
def Obligations.SilentPassage : Prop :=
  ∀ (w : Works) (env : Env) (h : Handle) (m : Move),
    let t := w.silentPassage env h m
    let gone : Entry → Bool := fun e =>
      if m.dir = .fwd then crosses (env.cfg.geometry h) m e.due
      else decide (2147483647 < e.distanceAhead m.old + (m.distance : Int))
    let ends (p : Pos) : Bool := decide (m.dir = .fwd) && crosses (env.cfg.geometry h) m p
    t = { w with
      queues := t.queues, sensors := t.sensors, rings := t.rings, windows := t.windows, outputs := t.outputs
      notices := w.notices.raised env.cfg.noticeMask .missed ((w.queues.get h).filter gone).length } ∧
    (∀ k, k ≠ 4 → t.notices.counters.get k = w.notices.counters.get k) ∧
    (∀ k, t.sensors.get k =
      if (env.cfg.sensors.get k).capture = some h ∧ m.dir = .fwd then
        { w.sensors.get k with lockout := (w.sensors.get k).lockout - m.distance }
      else w.sensors.get k) ∧
    w.WindowsFollow env h (releasedOn h ends w.outputs) t ∧
    t.txQueue = w.txQueue ∧ (∀ h', h' ≠ h → t.queues.get h' = w.queues.get h') ∧
    t.queues.get h = ((w.queues.get h).filter fun e => !gone e) ∧
    (w.notices.counters.get 4 ≤ 65535 →
      t.notices.counters.get 4 = min 65535 (w.notices.counters.get 4 + ((w.queues.get h).filter gone).length)) ∧
    (∀ r, t.rings.get r =
      if (env.cfg.rings.get r).handle = some h ∧ (w.rings.get r).armed = true ∧ env.active h = true then
        { w.rings.get r with pointer := (w.ringWalk env h m r).1 }
      else w.rings.get r) ∧
    ∀ q, (env.cfg.outputs.get q).mode = .action →
      (∀ p, (w.outputs.get q).pulse = .distance h p → m.dir = .fwd →
        crosses (env.cfg.geometry h) m p = true →
        t.outputs.get q = { w.outputs.get q with level := false, pulse := .idle }) ∧
      ((∀ p, (w.outputs.get q).pulse = .distance h p →
          m.dir = .rev ∨ crosses (env.cfg.geometry h) m p = false) →
        t.outputs.get q = w.outputs.get q)

/-- The walk of a ring takes entries one after another in ring order from the pointer on, each crossed by the move (its distance
from the old position, in the direction of the move, is 1 to J) in a direction it qualifies for, at most L of them; it stops at
the first that is not, and the pointer stands there. -/
def Obligations.RingWalk : Prop :=
  ∀ (entries : List CamEntry) (positions : List Pos) (g : Geometry) (m : Move) (p : Nat),
    p < entries.length → positions.length = entries.length →
    let r := walkRing entries positions g m entries.length p
    let L := entries.length
    let distance (t : Pos) : Nat := if m.dir = .fwd then forwardDistance g m.old t else forwardDistance g t m.old
    let taken (e : CamEntry) (t : Pos) : Prop :=
      1 ≤ distance t ∧ distance t ≤ m.distance ∧
      (e.direction = .both ∨ e.direction = .fwd ∧ m.dir = .fwd ∨ e.direction = .rev ∧ m.dir = .rev)
    ∃ n ≤ L, r.1 = (p + n) % L ∧
      r.2.map some = (List.range n).map (fun j => entries[(p + j) % L]?) ∧
      (∀ j < n, ∃ e t, entries[(p + j) % L]? = some e ∧ positions[(p + j) % L]? = some t ∧ taken e t) ∧
      (n < L → ∃ e t, entries[(p + n) % L]? = some e ∧ positions[(p + n) % L]? = some t ∧ ¬taken e t)

/-- The flag of a window by the table of R80, in each of its cases. -/
def Obligations.WindowTable : Prop :=
  ∀ (w : Works) (env : Env) (k : Fin 8) (h : Handle),
    let lower := (w.windows.get k).lower
    let upper := (w.windows.get k).upper
    let p := env.position h
    let g := env.cfg.geometry h
    ((env.cfg.windows.get k).handle = none → w.windowFlag env k = false) ∧
    ((env.cfg.windows.get k).handle = some h →
      (env.active h = false → w.windowFlag env k = false) ∧
      (env.active h = true → g.kind = .track →
        (w.windowFlag env k = true ↔
          0 ≤ signedDifference p lower ∧ signedDifference p lower ≤ signedDifference upper lower)) ∧
      (env.active h = true → g.kind = .ring →
        lower.toNat < g.modulus → upper.toNat < g.modulus → p.toNat < g.modulus →
        (lower.toNat ≤ upper.toNat →
          (w.windowFlag env k = true ↔ lower.toNat ≤ p.toNat ∧ p.toNat ≤ upper.toNat)) ∧
        (upper.toNat < lower.toNat →
          (w.windowFlag env k = true ↔ lower.toNat ≤ p.toNat ∨ p.toNat ≤ upper.toNat))))

/-! ### The trigger queue and the output lines -/

/-- An offer is decided by the ordered steps of R27. -/
def Obligations.OfferDecided : Prop :=
  ∀ (w : Works) (env : Env) (h : Handle) (e : Entry),
    let p := env.position h
    let usable := match axisRef h with
      | .loc i => (env.axes.get i).state = .active
      | .mir i => (env.mirrors.get i).state ≠ .remoteFault
    let held := ∃ h' x, x ∈ w.queues.get h' ∧ x.origin = e.origin ∧ x.sequence = e.sequence ∧ x.source = e.source
    (¬usable → w.offer env h e = (.unmapped, w.raise env .unmapped)) ∧
    (usable → e.epoch ≠ env.epoch h → w.offer env h e = (.epochDiscard, w.raise env .epochDiscard)) ∧
    (usable → e.epoch = env.epoch h → held → w.offer env h e = (.duplicate, w.raise env .duplicate)) ∧
    (usable → e.epoch = env.epoch h → ¬held → isAhead e.due p = true → w.entries.length < 64 →
      w.offer env h e = (.inserted,
        { w with
          queues := w.queues.put h (insertEntry p { e with stamp := w.nextStamp } (w.queues.get h))
          nextStamp := w.nextStamp + 1 })) ∧
    (usable → e.epoch = env.epoch h → ¬held → isAhead e.due p = true → 64 ≤ w.entries.length →
      w.offer env h e = (.queueFull, w.raise env .queueFull)) ∧
    (usable → e.epoch = env.epoch h → ¬held → isAhead e.due p = false →
      (-(signedDifference e.due p) ≤ (env.cfg.lateTolerance : Int) →
        w.offer env h e = (.lateFired, w.lateFire env h e)) ∧
      ((env.cfg.lateTolerance : Int) < -(signedDifference e.due p) →
        w.offer env h e = (.lateDrop, w.raise env .lateDrop)))

/-- A late fire stores nothing: it raises LATE_FIRE, in RUN hands its action to the line, in HOLD raises SUPPRESSED, and in both
forwards its tag when it may. -/
def Obligations.LateFire : Prop :=
  ∀ (w : Works) (env : Env) (h : Handle) (e : Entry),
    let t := w.lateFire env h e
    t.queues = w.queues ∧ t.nextStamp = w.nextStamp ∧ t.sensors = w.sensors ∧ t.rings = w.rings ∧ t.windows = w.windows ∧
    t.outputs = (match e.action with
      | none => w
      | some a => if env.run then w.act env (some h) a else w).outputs ∧
    (w.notices.counters.get 2 < 65535 → t.notices.counters.get 2 = w.notices.counters.get 2 + 1) ∧
    (w.notices.counters.get 5 < 65535 →
      t.notices.counters.get 5 = w.notices.counters.get 5 + if env.run then 0 else 1) ∧
    (¬(e.forward = true ∧ e.hop ≠ 3) → t.txQueue = w.txQueue) ∧
    (e.forward = true → e.hop ≠ 3 → ∀ id, env.lineAxis h = some id →
      (w.tagsHeld < 12 →
        t.txQueue = w.txQueue ++ [.tag ⟨e.origin, e.sequence, e.tagClass, e.hop + 1, id, e.epoch, e.due⟩]) ∧
      (12 ≤ w.tagsHeld → t.txQueue = w.txQueue ∧
        (w.notices.counters.get 8 < 65535 → t.notices.counters.get 8 = w.notices.counters.get 8 + 1)))

/-- An inserted entry stands after every entry whose distance ahead is at most its own and before every other, so that a list in
the order of R24 stays in that order. -/
def Obligations.InsertionOrder : Prop :=
  ∀ (p : Pos) (e : Entry) (l : List Entry),
    (l.Pairwise fun a b => a.distanceAhead p ≤ b.distanceAhead p) →
    ((insertEntry p e l).Pairwise fun a b => a.distanceAhead p ≤ b.distanceAhead p) ∧
    ∃ before after, l = before ++ after ∧ insertEntry p e l = before ++ e :: after ∧
      (∀ x ∈ before, x.distanceAhead p ≤ e.distanceAhead p) ∧ ∀ x ∈ after, e.distanceAhead p < x.distanceAhead p

/-- An action is taken by an ACTION line in NORMAL, and by no other; every other line stays as it is. The pin of a line is not
driven while RELEASED, and else shows its level by its polarity (R87); FAULT_OUT_N is driven low while the station is
LOCKED_OUT, its configuration status INVALID or a local axis FAULTED (R100), and stands deasserted in reset. -/
def Obligations.ActionTaken : Prop :=
  (∀ (w : Works) (env : Env) (src : Option Handle) (a : Action),
      let o := w.outputs.get a.line
      let takes := (env.cfg.outputs.get a.line).mode = .action ∧ o.condition = .normal
      (¬takes → w.act env src a = w) ∧
      (takes →
        ∃ n, w.act env src a = { w with outputs := w.outputs.put a.line n } ∧ n.condition = .normal ∧
          n.followed = o.followed ∧
          (a.operation = .set → n.level = true ∧ n.pulse = .idle) ∧
          (a.operation = .clear → n.level = false ∧ n.pulse = .idle) ∧
          (∀ x, a.operation = .pulseTime x → n.level = true ∧ n.pulse = .timed x.toNat 0) ∧
          (∀ x h, a.operation = .pulseDist x → src = some h →
            (env.active h = false → n.level = false ∧ n.pulse = .idle) ∧
            (env.active h = true → n.level = true ∧
              ∃ r, n.pulse = .distance h r ∧
                ((env.cfg.geometry h).kind = .track → r.toNat = ((env.position h).toNat + x.toNat) % 4294967296) ∧
                ((env.cfg.geometry h).kind = .ring → (env.cfg.geometry h).modulus ≤ 16777216 →
                  1 ≤ (env.cfg.geometry h).modulus →
                  r.toNat = ((env.position h).toNat + x.toNat) % (env.cfg.geometry h).modulus))))) ∧
  (∀ (s : State) (q : Fin 8),
      let o := s.works.outputs.get q
      (o.condition = .released → s.outputPin q = .released) ∧
      (o.condition ≠ .released →
        ((s.cfg.outputs.get q).lowActive = false → s.outputPin q = if o.level = true then .high else .low) ∧
        ((s.cfg.outputs.get q).lowActive = true → s.outputPin q = if o.level = true then .low else .high))) ∧
  ∀ s : State, s.faultOutN = false ↔
    s.held = false ∧ (s.bus.station = .lockedOut ∨ s.startup.status = .invalid ∨ ∃ i, (s.axes.get i).state = .faulted)

/-! ### Sensors, tags and the hold input -/

/-- SENSOR_PIN_CHANGE: a change begins a pending change, a return to the qualified level cancels it, and with filter code 0 the
change is qualified at once. QUALIFIED_CHANGE takes the new level in every case; an edge that is not of interest, or that
meets a lockout or a station not ROTATING, does nothing more. The filters run with a valid configuration from the end of
LOADING on; while they do not, only the pin's level is known and nothing is qualified (R67; deduced, log entry 17). -/
def Obligations.SensorChange : Prop :=
  ∀ (s : State) (k : Fin 4) (level : Bool),
    let x := s.works.sensors.get k
    let set (y : Sensor) : State := { s with works := { s.works with sensors := s.works.sensors.put k y } }
    let filtersRun := s.held = false ∧ s.bus.station ≠ .loading ∧ s.startup.status = .valid
    let e := (s.cfg.sensors.get k).edge
    let interest := (x.qualified = false ∧ (e = .rise ∨ e = .both)) ∨ (x.qualified = true ∧ (e = .fall ∨ e = .both))
    (¬filtersRun →
      exec (.sensorPinChange k level) s = .next (set { x with pin := level }) ∧ exec (.qualifiedChange k) s = .next s) ∧
    (filtersRun →
      (level = x.qualified → exec (.sensorPinChange k level) s = .next (set { x with pin := level, pending := none })) ∧
      (level ≠ x.qualified → (s.cfg.sensors.get k).filter = 0 →
        ∃ t, exec (.sensorPinChange k level) s = .next t ∧
          exec (.qualifiedChange k) (set { x with pin := level, pending := some 0 }) = .next t) ∧
      (level ≠ x.qualified → (s.cfg.sensors.get k).filter ≠ 0 → ∀ n, x.pending = some n →
        exec (.sensorPinChange k level) s = .next (set { x with pin := level })) ∧
      (level ≠ x.qualified → (s.cfg.sensors.get k).filter ≠ 0 → x.pending = none →
        exec (.sensorPinChange k level) s = .next (set { x with pin := level, pending := some 0 })) ∧
      (x.pending = none → exec (.qualifiedChange k) s = .next s) ∧
      (x.pending ≠ none → (¬interest ∨ x.lockout ≠ 0 ∨ s.bus.station ≠ .rotating) →
        exec (.qualifiedChange k) s = .next (set { x with qualified := !x.qualified, pending := none })))

/-- An accepted edge captures. On an axis not ACTIVE the capture is refused with UNMAPPED and no tag. On an ACTIVE axis a tag takes
the next sequence number and the position and epoch of the axis, and the lockout is set. The tag goes to the armed rules of
this sensor whose gate is open, each of which in rule index order offers an entry due at its offset from the position
captured, and, when the sensor publishes, to the transmit queue; either may take it first (R53), which the model leaves to a
free value, counted in works.choice (log entry 2, a design choice). -/
def Obligations.CaptureMakesTag : Prop :=
  ∀ (s : State) (k : Fin 4) (h : Handle) (id : BitVec 6),
    let x := s.works.sensors.get k
    let set := s.cfg.sensors.get k
    let tag : Tag :=
      { origin := s.bus.number, sequence := s.nextSequence, tagClass := set.tagClass, hop := 0
        lineAxis := id, epoch := s.env.epoch h, position := s.env.position h }
    let passes (r : Fin 8) : Bool :=
      (s.rules.get r).armed && decide ((s.cfg.rules.get r).source = .sensor k) &&
      (s.cfg.rules.get r).gate.all fun g => (s.works.windows.get g).flag
    let toRules (w : Works) : Works := ((List.finRange 8).filter passes).foldl (fun w r =>
      (w.offer s.env h
        { origin := s.bus.number, sequence := s.nextSequence, source := .rule r, tagClass := set.tagClass, hop := 0
          epoch := s.env.epoch h, due := s.env.position h + (s.rules.get r).offset
          action := (s.cfg.rules.get r).action, forward := (s.cfg.rules.get r).forward, stamp := 0 }).2) w
    let toQueue (w : Works) : Works :=
      if set.publish then
        if w.tagsHeld < 12 then { w with txQueue := w.txQueue ++ [.tag tag] }
        else { w with notices := w.notices.raise s.cfg.noticeMask .txFull }
      else w
    s.held = false → x.pending ≠ none → x.lockout = 0 → s.bus.station = .rotating → s.startup.status = .valid →
    (x.qualified = false ∧ (set.edge = .rise ∨ set.edge = .both) ∨
      x.qualified = true ∧ (set.edge = .fall ∨ set.edge = .both)) →
    set.capture = some h →
      (s.env.active h = false →
        exec (.qualifiedChange k) s = .next
          { s with works := { s.works with
            sensors := s.works.sensors.put k { x with qualified := !x.qualified, pending := none }
            notices := s.works.notices.raise s.cfg.noticeMask .unmapped } }) ∧
      (s.env.active h = true → s.env.lineAxis h = some id →
        ∃ t c, exec (.qualifiedChange k) s = .next t ∧
          t = { s with nextSequence := s.nextSequence + 1, works := t.works } ∧
          let u : Works := { s.works with
            sensors := s.works.sensors.put k { x with qualified := !x.qualified, pending := none }
            choice := c }
          let locked : Bank Sensor 4 :=
            s.works.sensors.put k { x with qualified := !x.qualified, pending := none, lockout := set.lockout }
          t.works = { toQueue (toRules u) with sensors := locked } ∨
          t.works = { toRules (toQueue u) with sensors := locked })

/-- A remote tag with no handle raises UNMAPPED, one of another epoch EPOCH_DISCARD, and neither reaches a rule. A mapped tag goes
to the armed LINE rules that match it and whose gate is open: in rule index order each offers an entry due at the tag's
position plus the rule's offset, decided before the next rule is taken. -/
def Obligations.RemoteTag : Prop :=
  ∀ (w : Works) (env : Env) (t : Tag),
    ((∀ h, env.cfg.isTrack h = true → env.lineAxis h ≠ some t.lineAxis) →
      w.remoteTag env t = w.raise env .unmapped) ∧
    ∀ h, env.cfg.isTrack h = true → env.lineAxis h = some t.lineAxis →
      (∀ h', env.cfg.isTrack h' = true → env.lineAxis h' = some t.lineAxis → h' = h) →
      (t.epoch ≠ env.epoch h → w.remoteTag env t = w.raise env .epochDiscard) ∧
      (t.epoch = env.epoch h →
        let passes (k : Fin 8) : Bool :=
          let set := env.cfg.rules.get k
          (env.rules.get k).armed && decide (set.source = .line) && set.classes.getLsbD t.tagClass.toNat &&
          (set.origin.all fun o => decide (t.origin = o)) && (set.hop.all fun x => decide (t.hop = x)) &&
          set.gate.all fun g => (w.windows.get g).flag
        w.remoteTag env t = ((List.finRange 8).filter passes).foldl (fun w k =>
          (w.offer env h
            { origin := t.origin, sequence := t.sequence, source := .rule k, tagClass := t.tagClass, hop := t.hop
              epoch := t.epoch, due := t.position + (env.rules.get k).offset
              action := (env.cfg.rules.get k).action, forward := (env.cfg.rules.get k).forward, stamp := 0 }).2) w)

/-- HOLD_IN_CHANGE begins or cancels a pending change of the hold input; HOLD_IN_QUALIFY begins or ends the own hold cause PIN,
forces the lines when the line state becomes HOLD (R89), and lets them leave FORCED when it becomes RUN: an ACTION line then
takes level 0 with pulse IDLE whatever its safe level, a WINDOW line its followed flag (R90). While the device is held in reset only the pin's level is remembered
(deduced from R186, log entry 14). -/
def Obligations.HoldInput : Prop :=
  ∀ (s : State) (level : Bool),
    let x := s.holdIn
    (s.held = true → exec (.holdInChange level) s = .next { s with holdIn := { x with pin := level } }) ∧
    (s.held = false → x.asserted = !level →
      exec (.holdInChange level) s = .next { s with holdIn := { x with pin := level, pending := none } }) ∧
    (s.held = false → x.asserted = level →
      exec (.holdInChange level) s = .next
        { s with holdIn := { x with pin := level, pending := some (x.pending.getD 0) } }) ∧
    (x.pending = none → exec .holdInQualify s = .next s) ∧
    (x.pending ≠ none →
      ∃ t, exec .holdInQualify s = .next t ∧
        t = { s with holdIn := { x with asserted := !x.asserted, pending := none }, works := t.works } ∧
        t.works = { s.works with outputs := t.works.outputs } ∧ t.LinesTake s.works.outputs ∧
        (x.asserted = false → t.run = false ∧ t.ownHold = true ∧
          (s.startup.status = .valid → ∀ q, (t.works.outputs.get q).condition = .forced)))

/-! ### The bus -/

/-- START_BIT, while the receiver takes what the bus carries, ends the idle count and any wait. When no frame is being received it
begins one: delimited by its length after at least 24 bit times of idle, else corrupt, or discarded when it is the first after
LOADING; a byte whose stop bit reads 0 makes the frame corrupt. A low level too short for a start bit does nothing, and a
level that goes to 0 and stays there is a start bit whose byte has a framing error. While
BUS_RXD stays at 0 there is no start bit, no frame ends, no wait runs out and no station joins by silence. A corrupt frame
changes the anchor, the BAD_FRAME count and the wait alone; the remains of an own aborted frame and a discarded first frame do
not even count. A frame delimited by its length is judged at its own last byte; bytes that follow at once are a gap violation,
which cancels the wait. The model's choices: the idle that START_BIT names is added to the idle already counted, a RECEIVE_FRAME
or FRAME_END_BY_IDLE that no START_BIT announced is a whole frame, and a RECEIVE_FRAME in a frame delimited by idle ends it (log
entry 7); FRAME_END_BY_IDLE leaves the idle at more than 12 bit times (log entry 5), just so at the end of a frame that no START_BIT
announced, before which the idle counted until then had passed. -/
def Obligations.ReceptionBeginsAndEnds : Prop :=
  (∀ (s : State) (idle : Nat) (stop : Bool), s.Hears →
      let enough := 24 * bitClocks s.bus.rate ≤ s.bus.idle + idle * bitClocks s.bus.rate
      exec (.startBit (.start idle stop)) s = .next
        { s with bus := { s.bus with
          idle := 0
          byteLeft := 10 * bitClocks s.bus.rate
          wait := none
          fresh := false
          rxd := stop
          reception :=
            if s.bus.reception = .none then
              if enough then (if stop then .frame else .corrupt) else if s.bus.fresh then .discarded else .corrupt
            else if s.bus.reception = .frame ∧ stop = false then .corrupt
            else s.bus.reception } }) ∧
  (∀ (s : State) (level : Bool),
      exec (.startBit .spike) s = .next s ∧
      (level = true ∨ ¬s.Hears → exec (.startBit (.level level)) s = .next { s with bus := { s.bus with rxd := level } })) ∧
  (∀ s : State, s.Hears →
      ∃ t, exec (.startBit (.level false)) s = .next t ∧ exec (.startBit (.start 0 false)) s = .next t) ∧
  (∀ s : State, s.bus.rxd = false →
      (∀ idle stop, exec (.startBit (.start idle stop)) s = .next s) ∧ (∀ bytes, exec (.receiveFrame bytes) s = .next s) ∧
      exec .frameEndByIdle s = .next s ∧ exec .emptyBus s = .next s ∧ exec .waitExpiry s = .next s) ∧
  (∀ (s : State) (bytes : List Byte), s.Hears →
      let idle :=
        if s.bus.reception = .none then 12 * bitClocks s.bus.rate + 1 else max s.bus.idle (12 * bitClocks s.bus.rate + 1)
      let bad := { s.works with notices := s.works.notices.raise s.cfg.noticeMask .badFrame }
      let whole := ∀ h1 h2 l rest, bytes = 0xC3 :: h1 :: h2 :: l :: rest → l.toNat ≤ 120 → rest.length ≤ l.toNat + 2
      (s.bus.reception = .corrupt ∨
          (s.bus.reception = .none ∨ s.bus.reception = .frame) ∧ judge bytes = none ∧ whole →
        exec (.receiveFrame bytes) s = .next { s with works := bad, bus := s.bus.afterFrame none 0 }) ∧
      (s.bus.reception = .discarded ∨ s.bus.reception = .remains →
        exec (.receiveFrame bytes) s = .next { s with bus := s.bus.afterFrame none 0 } ∧
        exec .frameEndByIdle s = .next { s with bus := s.bus.afterFrame none idle }) ∧
      (s.bus.reception ≠ .discarded → s.bus.reception ≠ .remains →
        exec .frameEndByIdle s = .next { s with works := bad, bus := s.bus.afterFrame none idle })) ∧
  (∀ (s : State) (h1 h2 l : Byte) (rest more : List Byte), s.Hears →
      s.bus.reception = .none ∨ s.bus.reception = .frame → l.toNat ≤ 120 → rest.length = l.toNat + 2 → more ≠ [] →
        ∃ t, exec (.receiveFrame (0xC3 :: h1 :: h2 :: l :: rest)) s = .next t ∧
          exec (.receiveFrame (0xC3 :: h1 :: h2 :: l :: (rest ++ more))) s = .next
            { t with bus := { t.bus with idle := 0, byteLeft := 0, wait := none, fresh := false, reception := .corrupt } })

/-- A valid frame of the own number sends a LISTENING or ROTATING station to LOCKED_OUT: both queues emptied, the wait cancelled,
the lines forced or released, FAULT_OUT_N asserted; the frame itself is neither applied nor counted. A LOCKED_OUT station
takes its anchor alone. That a frame which no START_BIT announced is taken whole is the model's choice (log entry 7). -/
def Obligations.DuplicateLocksOut : Prop :=
  ∀ (s : State) (bytes : List Byte) (f : Frame), s.Hears →
    s.bus.reception = .none ∨ s.bus.reception = .frame → judge bytes = some f → f.source = s.bus.number →
      (s.bus.station = .lockedOut →
        exec (.receiveFrame bytes) s = .next { s with bus := s.bus.afterFrame (some s.bus.number) 0 }) ∧
      (s.bus.station ≠ .lockedOut →
        ∃ t, exec (.receiveFrame bytes) s = .next t ∧
          t = { s with bus := t.bus, roster := t.roster, works := t.works } ∧
          t.bus = { s.bus.afterFrame (some s.bus.number) 0 with station := .lockedOut, wait := none } ∧
          (∀ n, n ≠ stationIndex s.bus.number → t.roster.get n = s.roster.get n) ∧
          (t.roster.get (stationIndex s.bus.number)).state = .unknown ∧
          (∀ h, t.works.queues.get h = []) ∧ t.works.txQueue = [] ∧ t.works.notices = s.works.notices ∧
          t.works.sensors = s.works.sensors ∧ t.works.rings = s.works.rings ∧ t.works.windows = s.works.windows ∧
          (∀ q, (t.works.outputs.get q).condition = if s.startup.status = .valid then .forced else .released) ∧
          t.LinesTake s.works.outputs ∧ t.run = false ∧ t.faultOutN = false)

/-- A valid frame of another station: the misses of the pair (anchor, source) are counted, the source is PRESENT with the frame's
HOLD flag, and the anchor is the source, whatever the items do. A frame with no item counts in FRAMES_RECEIVED; the ACTIVE
mirrors of the source and of the missed stations go STALE, each raising MIRROR_STALE once, and each station that comes to the
absent limit goes ABSENT, raising STATION_LOST once. The windows on those mirrors read 0 and their distance pulses are
released, and the lines follow those windows and the condition of the station as it then is; no other notice, window or block
is touched. That a frame which no START_BIT announced is taken whole is the model's choice (log entry 7). -/
def Obligations.AcceptedFrame : Prop :=
  ∀ (s : State) (bytes : List Byte) (f : Frame), s.Hears →
    s.bus.reception = .none ∨ s.bus.reception = .frame → judge bytes = some f → f.source ≠ s.bus.number →
    s.bus.station ≠ .listening ∨ f.source ∉ s.bus.joined →
      ∃ t, exec (.receiveFrame bytes) s = .next t ∧
        t.bus = { s.bus.afterFrame (some f.source) 0 with
          joined := if s.bus.station = .listening then s.bus.joined ++ [f.source] else s.bus.joined } ∧
        t.roster.get (stationIndex f.source) = ⟨.present, 0, f.hold⟩ ∧
        (∀ j, j ≠ f.source →
          (s.Missed s.bus.anchor f.source j →
            t.roster.get (stationIndex j) = s.missedEntry (s.roster.get (stationIndex j))) ∧
          (¬s.Missed s.bus.anchor f.source j → t.roster.get (stationIndex j) = s.roster.get (stationIndex j))) ∧
        t.cfg = s.cfg ∧ t.startup = s.startup ∧ t.holdIn = s.holdIn ∧ t.held = s.held ∧ t.nextSequence = s.nextSequence ∧
        (f.items = [] →
          t.axes = s.axes ∧ t.rules = s.rules ∧ t.command = s.command ∧
          t.works.txQueue = s.works.txQueue ∧ t.works.queues = s.works.queues ∧
          t.works.sensors = s.works.sensors ∧ t.works.rings = s.works.rings ∧
          (s.works.notices.counters.get 16 < 65535 →
            t.works.notices.counters.get 16 = s.works.notices.counters.get 16 + 1) ∧
          t.works.notices.counters.get 17 = s.works.notices.counters.get 17 ∧
          (∃ l gone, l.Nodup ∧ s.GoneBy s.bus.anchor f.source gone ∧ s.Loses t l gone ∧
            ∀ i, i ∈ l ↔ (s.mirrors.get i).state = .active ∧
              ∃ id, (s.cfg.mirrors.get i).lineAxis = some id ∧
                (publisher id = f.source ∨ s.Missed s.bus.anchor f.source (publisher id))) ∧
          t = { s with bus := t.bus, roster := t.roster, mirrors := t.mirrors, works := t.works } ∧
          t.works = { s.works with notices := t.works.notices, windows := t.works.windows, outputs := t.works.outputs } ∧
          ∀ i,
            let lost := (s.mirrors.get i).state = .active ∧
              ∃ id, (s.cfg.mirrors.get i).lineAxis = some id ∧
                (publisher id = f.source ∨ s.Missed s.bus.anchor f.source (publisher id))
            (lost → t.mirrors.get i = { s.mirrors.get i with state := .stale }) ∧
            (¬lost → t.mirrors.get i = s.mirrors.get i))

/-- A valid frame of another station is applied item by item in frame order, each item to the station that the ones before left,
and after the last the ACTIVE mirrors of the source that took no report go STALE (R142, R112), each raising MIRROR_STALE and
delivering its change. The header has been applied before, with what its misses make STALE or ABSENT. An AXIS item goes to the mirror
that subscribes it, a TAG item to the tag path in ROTATING with a valid configuration, and a CMD item addressed to the station
is the row of its command; an item of these kinds with a body of another length is skipped with BAD_FRAME, and every other
kind is skipped (R143): that BAD_FRAME is raised then in every station state, with any configuration status and whatever the
target of a CMD item, is deduced (log entry 11, unsafe). A command with fewer parameter bytes than its list, or with a selector or mode that names nothing, is
BAD_PARAM (R153, R173, R177). The events of reports for different handles come in the order of their items (deduced, log entry
20); a frame which no START_BIT announced is taken whole (log entry 7, a design choice). The frame on which a LISTENING station
joins is applied so too, before or after the joining, which the model leaves to a free value (log entry 2, a design choice). -/
def Obligations.ItemsApplied : Prop :=
  (∀ (s : State) (bytes : List Byte) (f : Frame), s.Hears →
      s.bus.reception = .none ∨ s.bus.reception = .frame → judge bytes = some f → f.source ≠ s.bus.number →
        let applied (u t : State) : Prop :=
          let p := f.items.foldl (fun p i => p.2.applyItem f.source p.1 i) ([], u)
          let lost (i : Fin 6) : Prop := (p.2.mirrors.get i).state = .active ∧ i ∉ p.1 ∧
            ∃ id, (s.cfg.mirrors.get i).lineAxis = some id ∧ publisher id = f.source
          t = { p.2 with mirrors := t.mirrors, works := t.works } ∧
          (∃ l : List (Fin 6), l.Nodup ∧ (∀ i, i ∈ l ↔ lost i) ∧ t = l.foldl State.goesStale p.2) ∧
          ∀ i,
            (lost i → t.mirrors.get i = { p.2.mirrors.get i with state := .stale }) ∧
            (¬lost i → t.mirrors.get i = p.2.mirrors.get i)
        ∃ u t : State,
          u.cfg = s.cfg ∧ u.startup = s.startup ∧ u.bus.station = s.bus.station ∧ u.bus.number = s.bus.number ∧
          u.axes = s.axes ∧ u.rules = s.rules ∧ u.command = s.command ∧ u.nextSequence = s.nextSequence ∧
          u.roster.get (stationIndex f.source) = ⟨.present, 0, f.hold⟩ ∧
          u.works.queues = s.works.queues ∧ u.works.txQueue = s.works.txQueue ∧ u.works.rings = s.works.rings ∧
          (∀ i, (∀ id, (s.cfg.mirrors.get i).lineAxis = some id →
            ¬s.Missed s.bus.anchor f.source (publisher id)) → u.mirrors.get i = s.mirrors.get i) ∧
          (∃ l gone, l.Nodup ∧ s.GoneBy s.bus.anchor f.source gone ∧ s.Loses u l gone ∧
            ∀ i, i ∈ l ↔ (s.mirrors.get i).state = .active ∧
              ∃ id, (s.cfg.mirrors.get i).lineAxis = some id ∧ s.Missed s.bus.anchor f.source (publisher id)) ∧
          exec (.receiveFrame bytes) s = .next t ∧
          (s.bus.station ≠ .listening ∨ f.source ∉ s.bus.joined → applied u t) ∧
          (s.bus.station = .listening → f.source ∈ s.bus.joined →
            (∃ v, applied u v ∧ t = v.join) ∨ applied u.join t)) ∧
  (∀ (s : State) (source : Station) (taken : List (Fin 6)) (body : List Byte),
      let item (kind : Nat) := s.applyItem source taken ⟨kind, body⟩
      (body.length ≠ 6 → item 1 = (taken, s.raise .badFrame)) ∧
      (body.length ≠ 9 → item 2 = (taken, s.raise .badFrame)) ∧
      (body.length < 3 → item 3 = (taken, s.raise .badFrame)) ∧
      (∀ kind, kind = 0 ∨ 3 < kind → item kind = (taken, s)) ∧
      (body.length = 6 → ∃ r, axisReportOf body = some r ∧
        item 1 = ((s.applyAxisItem source r).1.toList ++ taken, (s.applyAxisItem source r).2)) ∧
      (body.length = 9 → ∃ x, tagOf body = some x ∧
        (s.bus.station = .rotating → s.startup.status = .valid →
          item 2 = (taken, { s with works := s.works.remoteTag s.env x })) ∧
        (s.bus.station ≠ .rotating ∨ s.startup.status ≠ .valid → item 2 = (taken, s)))) ∧
  ∀ (s : State) (source : Station) (taken : List (Fin 6)) (target tid code : Byte) (p : List Byte),
    let r := s.applyItem source taken ⟨3, target :: tid :: code :: p⟩
    let is (i : Instr) : Prop := exec i s = .next r.2
    r.1 = taken ∧
    (target.extractLsb' 0 5 ≠ s.bus.number → r.2 = s) ∧
    (target.extractLsb' 0 5 = s.bus.number →
      (code = 0 ∨ 13 < code.toNat → is (.unknownCommand source tid code)) ∧
      (∀ page handle x, code = 1 → p = page :: handle :: x → is (.readStatus source tid page handle)) ∧
      (∀ handle index x, code = 2 → p = handle :: index :: x → is (.readQueue source tid handle index)) ∧
      (∀ ring entry a b c d x, code = 3 → p = ring :: entry :: a :: b :: c :: d :: x →
        is (.trimCam source tid ring entry (be32 a b c d))) ∧
      (∀ rule a b c d x, code = 4 → p = rule :: a :: b :: c :: d :: x → is (.trimRule source tid rule (be32 a b c d))) ∧
      (∀ window a b c d a' b' c' d' x, code = 5 → p = window :: a :: b :: c :: d :: a' :: b' :: c' :: d' :: x →
        is (.trimWindow source tid window (be32 a b c d) (be32 a' b' c' d'))) ∧
      (∀ index arm start x, code = 6 →
        (p = 0 :: index :: arm :: start :: x → is (.armRule source tid index arm start)) ∧
        (p = 1 :: index :: arm :: start :: x → is (.armRing source tid index arm start))) ∧
      (∀ handle a b c d x, code = 7 → p = handle :: a :: b :: c :: d :: x →
        is (.setOrigin source tid handle (be32 a b c d))) ∧
      (∀ handle a b c d x, code = 8 →
        (p = handle :: 0 :: a :: b :: c :: d :: x → is (.armIndex source tid handle (be32 a b c d))) ∧
        (p = handle :: 1 :: a :: b :: c :: d :: x → is (.armIndexCancel source tid handle))) ∧
      (∀ handle a b c d e f flags a0 a1 a2 x, code = 9 →
        p = handle :: a :: b :: c :: d :: e :: f :: flags :: a0 :: a1 :: a2 :: x →
        is (.injectEntry source tid handle (be32 a b c d) (be16 e f) (flags.extractLsb' 0 4) (flags.getLsbD 7)
          (actionOf a0 a1 a2))) ∧
      (∀ handle x, code = 10 → p = handle :: x → is (.clearQueue source tid handle)) ∧
      (code = 11 → is (.clearCounts source tid)) ∧
      (∀ line a b x, code = 12 → p = line :: a :: b :: x → is (.pulseOutput source tid line (be16 a b))) ∧
      (code = 13 → is (.restart source tid)) ∧
      (s.Executes source tid → 1 ≤ code.toNat → code.toNat ≤ 13 →
        p.length < [0, 2, 2, 6, 5, 9, 4, 5, 6, 11, 1, 0, 3, 0].getD code.toNat 0 ∨
          (code = 6 ∧ 1 < (p.getD 0 0).toNat) ∨ (code = 8 ∧ 1 < (p.getD 1 0).toNat) →
        r.2 = s.answered ⟨source, tid, code, .badParam, []⟩))

/-- A LISTENING station joins the rotation on an empty bus, and at the end of a valid frame whose source it has heard before:
ROTATING, the anchor unknown, the join record empty, and a first wait of G + s × T. The lines leave FORCED when the line state is
RUN (R90). The model's choices: EMPTY_BUS leaves the
idle count at 2072 bit times at least (log entry 5), and a frame which no START_BIT announced is taken whole (log entry 7). -/
def Obligations.JoinsTheRotation : Prop :=
  ∀ s : State, s.Hears → s.bus.station = .listening →
    (s.bus.reception = .none →
      ∃ t, exec .emptyBus s = .next t ∧
        t = { s with bus := t.bus, roster := t.roster, works := t.works } ∧
        t.bus = { s.bus with
          station := .rotating, anchor := none, joined := [], wait := some ⟨24 + 64 * s.bus.number.toNat, 0⟩
          idle := max s.bus.idle (2072 * bitClocks s.bus.rate) } ∧
        (∀ n, n ≠ stationIndex s.bus.number → t.roster.get n = s.roster.get n) ∧
        (t.roster.get (stationIndex s.bus.number)).state = .present ∧
        t.works = { s.works with outputs := t.works.outputs } ∧ t.LinesTake s.works.outputs) ∧
    ∀ (bytes : List Byte) (f : Frame), s.bus.reception = .none ∨ s.bus.reception = .frame →
      judge bytes = some f → f.source ≠ s.bus.number → f.source ∈ s.bus.joined →
        ∃ t, exec (.receiveFrame bytes) s = .next t ∧
          t.bus.station = .rotating ∧ t.bus.anchor = none ∧ t.bus.joined = [] ∧
          t.bus.wait = some ⟨24 + 64 * s.bus.number.toNat, 0⟩ ∧
          t.roster.get (stationIndex f.source) = ⟨.present, 0, f.hold⟩ ∧
          (t.roster.get (stationIndex s.bus.number)).state = .present ∧
          (f.items = [] → ∃ l gone, l.Nodup ∧ s.GoneBy s.bus.anchor f.source gone ∧ s.Loses t l gone ∧
            ∀ i, i ∈ l ↔ (s.mirrors.get i).state = .active ∧
              ∃ id, (s.cfg.mirrors.get i).lineAxis = some id ∧
                (publisher id = f.source ∨ s.Missed s.bus.anchor f.source (publisher id)))

/-- WAIT_EXPIRY in ROTATING starts the own frame and changes nothing else. The frame is the header with the own flags; an AXIS item
for each local axis that is published and ACTIVE or FAULTED, handle 0 first, none without a valid configuration; one NOTE item
with the pending kinds of lowest code, up to seven, each with its count; and the oldest items of the transmit queue, as many as
8 items and 120 bytes allow. A station that runs no wait, or is not ROTATING, or finds BUS_RXD held at 0, starts none. While a
frame is in flight BUS_DE is asserted and BUS_TXD carries its bytes back to back, each as a start bit 0, bits 0 to 7 and a stop
bit 1, a bit in a bit time; with none in flight BUS_DE is deasserted and BUS_TXD is at 1. -/
def Obligations.WaitExpiryStartsFrame : Prop :=
  (∀ s : State,
      let axisOf (i : Fin 2) : List (List Byte) :=
        let x := s.axes.get i
        if (s.cfg.axes.get i).publish = true ∧ x.state ≠ .off then
          [[0x16,
            BitVec.ofNat 8 ((if x.state = .faulted then 128 else 0) + (if (s.cfg.axes.get i).kind = .ring then 64 else 0) +
              (2 * s.bus.number.toNat + i.val)),
            BitVec.ofNat 8 (16 * (match x.lastDirection with
              | none => 0
              | some .fwd => 1
              | some .rev => 2) + x.epoch.toNat)] ++ bytes32 x.position]
        else []
      let kinds := ((List.finRange 16).filter fun k => decide (s.works.notices.pending.get k ≠ 0)).take 7
      let lead : List (List Byte) :=
        (if s.startup.status = .valid then axisOf 0 ++ axisOf 1 else []) ++
        (if kinds = [] then []
        else [BitVec.ofNat 8 (80 + 2 * kinds.length) :: kinds.flatMap fun k =>
          [BitVec.ofNat 8 k.val, BitVec.ofNat 8 (s.works.notices.pending.get k)]])
      (s.bus.station = .rotating → s.bus.wait ≠ none → s.bus.flight = none → s.bus.rxd = true →
        ∃ fl n, exec .waitExpiry s = .next { s with bus := { s.bus with wait := none, flight := some fl } } ∧
          fl.taken = n ∧
          (fl.notes.map fun p => (p.1.code, p.2)) = (kinds.map fun k => (k, s.works.notices.pending.get k)) ∧
          fl.bytes = frameBytes
            (headerByte (decide (s.startup.status = .invalid) || s.axisFault) s.ownHold
              (decide (s.startup.status = .valid)) s.bus.number)
            (lead ++ (s.works.txQueue.take n).map TxItem.bytes).length
            (lead ++ (s.works.txQueue.take n).map TxItem.bytes).flatten ∧
          lead.length + n ≤ 8 ∧ n ≤ s.works.txQueue.length ∧
          (lead ++ (s.works.txQueue.take n).map TxItem.bytes).flatten.length ≤ 120 ∧
          (n < s.works.txQueue.length →
            8 < lead.length + n + 1 ∨
            120 < (lead ++ (s.works.txQueue.take (n + 1)).map TxItem.bytes).flatten.length)) ∧
      (s.bus.station ≠ .rotating ∨ s.bus.wait = none ∨ s.bus.flight ≠ none ∨ s.bus.rxd = false →
        exec .waitExpiry s = .next s)) ∧
  (∀ (s : State) (f : Flight), s.bus.flight = some f →
      s.busDE = true ∧
      ∀ n, s.busTXD n = (match f.bytes[n / 10]? with
        | some b => if n % 10 = 0 then false else if n % 10 = 9 then true else b.getLsbD (n % 10 - 1)
        | none => true)) ∧
  ∀ s : State, s.bus.flight = none → s.busDE = false ∧ ∀ n, s.busTXD n = true

/-- Every frame the station assembles is one that its peers accept: at most 115 bytes, at most 8 items, and read back by the checks
of acceptance as its own number, its own HOLD flag and its items. -/
def Obligations.OwnFrameIsAccepted : Prop :=
  ∀ s : State, s.TxSound →
    s.assemble.bytes.length ≤ 115 ∧
    ∃ items : List Item, items.length ≤ 8 ∧
      judge s.assemble.bytes = some ⟨s.bus.number, s.ownHold, items⟩ ∧
      items.map (fun i => itemBytes i.kind i.body) =
        s.axisItems ++ s.noteItems ++ (s.works.txQueue.take s.assemble.taken).map TxItem.bytes

/-- COMPLETION with no restart due: the anchor is the own number and a wait of G + 31 × T starts, the items in flight leave the
transmit queue for good, FRAMES_SENT advances, the carried counts are subtracted, and the misses of the pair (anchor, own
number) are counted: the ACTIVE mirrors of the missed stations go STALE and the stations at the absent limit go ABSENT, each
with its notice, and the windows and lines take what that brings. -/
def Obligations.FrameCompletes : Prop :=
  ∀ (s : State) (f : Flight),
    s.bus.flight = some f → s.restartDue f = false →
      ∃ t, exec .completion s = .next t ∧
        t.bus = { s.bus.afterFrame (some s.bus.number) 0 with flight := none, rxd := true } ∧
        (s.bus.station = .rotating → t.bus.wait = some ⟨2008, 0⟩) ∧
        t.works.txQueue = s.works.txQueue.drop f.taken ∧ t.works.queues = s.works.queues ∧
        t.works.rings = s.works.rings ∧ t.works.sensors = s.works.sensors ∧
        t.axes = s.axes ∧ t.rules = s.rules ∧ t.command = s.command ∧ t.cfg = s.cfg ∧ t.nextSequence = s.nextSequence ∧
        (s.works.notices.counters.get 17 < 65535 →
          t.works.notices.counters.get 17 = s.works.notices.counters.get 17 + 1) ∧
        ((f.notes.map fun p => p.1).Nodup → ∀ k n, (k, n) ∈ f.notes → k ≠ .stationLost → k ≠ .mirrorStale →
          t.works.notices.pending.get k.code = s.works.notices.pending.get k.code - n) ∧
        (∀ k, (∀ n, (k, n) ∉ f.notes) → k ≠ .stationLost → k ≠ .mirrorStale →
          t.works.notices.pending.get k.code = s.works.notices.pending.get k.code) ∧
        (t.roster.get (stationIndex s.bus.number)) =
          { s.roster.get (stationIndex s.bus.number) with hold := f.hold } ∧
        t.works.notices.counters.get 16 = s.works.notices.counters.get 16 ∧
        (∃ l gone, l.Nodup ∧ s.GoneBy s.bus.anchor s.bus.number gone ∧ s.Loses t l gone ∧
          ∀ i, i ∈ l ↔ (s.mirrors.get i).state = .active ∧
            ∃ id, (s.cfg.mirrors.get i).lineAxis = some id ∧ s.Missed s.bus.anchor s.bus.number (publisher id)) ∧
        ∀ j, j ≠ s.bus.number →
          (s.Missed s.bus.anchor s.bus.number j →
            t.roster.get (stationIndex j) = s.missedEntry (s.roster.get (stationIndex j))) ∧
          (¬s.Missed s.bus.anchor s.bus.number j → t.roster.get (stationIndex j) = s.roster.get (stationIndex j))

/-- COMPLETION of a frame that carried the OK response to a pending RESTART: the warm restart. What completes with the frame comes
first, FRAMES_SENT and the misses of the pair, which may raise STATION_LOST and MIRROR_STALE in their counters 13 and 11; every
other counter is kept, every pending record is cleared, and each window takes the flag of its axis, 0 on a mirror. -/
def Obligations.WarmRestart : Prop :=
  ∀ (s : State) (f : Flight) (r : Response),
    s.bus.flight = some f → s.command.restartPending = true →
    .rsp r ∈ s.works.txQueue.take f.taken → r.code = 0x0D → r.result = .ok →
      ∃ t, exec .completion s = .next t ∧
        t.held = s.held ∧ t.pending = s.pending ∧ t.startup = s.startup ∧ t.cfg = s.cfg ∧ t.holdIn = s.holdIn ∧
        t.nextSequence = s.nextSequence ∧ t.rules = s.rules ∧
        t.bus = { s.bus with
          station := .listening, anchor := none, idle := 0, byteLeft := 0, reception := .none, fresh := false
          wait := none, joined := [], flight := none, rxd := true } ∧
        (∀ i, t.axes.get i = { s.axes.get i with arm := none }) ∧
        (∀ i, t.mirrors.get i = ⟨.unseen, 0, 0, none⟩) ∧
        (∀ n, t.roster.get n = ⟨.unknown, 0, false⟩) ∧
        (∀ n, t.command.cache.get n = none) ∧ t.command.restartPending = false ∧
        (∀ h, t.works.queues.get h = []) ∧ t.works.nextStamp = 0 ∧ t.works.txQueue = [] ∧
        (∀ k, t.works.sensors.get k = { s.works.sensors.get k with lockout := 0 }) ∧
        (∀ k, t.works.rings.get k = { s.works.rings.get k with pointer := 0 }) ∧
        (∀ k, (t.works.windows.get k).lower = (s.works.windows.get k).lower ∧
          (t.works.windows.get k).upper = (s.works.windows.get k).upper ∧
          (t.works.windows.get k).flag = t.works.windowFlag t.env k ∧
          ∀ h, (s.cfg.windows.get k).handle = some h → 2 ≤ h.val → (t.works.windows.get k).flag = false) ∧
        (s.works.notices.counters.get 17 < 65535 →
          t.works.notices.counters.get 17 = s.works.notices.counters.get 17 + 1) ∧
        (∀ k, k ≠ 11 → k ≠ 13 → k ≠ 17 → t.works.notices.counters.get k = s.works.notices.counters.get k) ∧
        (∀ k, t.works.notices.pending.get k = 0) ∧
        t.run = false ∧ t.faultOut = (decide (s.startup.status = .invalid) || s.axisFault) ∧
        (s.startup.status = .valid → ∀ q, (t.works.outputs.get q).condition = .forced)

/-- ABORT: the frame in flight is gone, its items are the oldest waiting again, no count is subtracted and FRAMES_SENT does not
advance; COLLISION is raised and what is left on the bus is read as remains. At a start bit after the lead byte's, which reads
1, they ended half a bit time before, at the stop bit of the byte before. Otherwise the byte in progress is read to its stop
bit, at whose level BUS_RXD then stands. That the lead byte runs on to its stop bit when its own start bit reads 1 is the
model's choice (log entry 7). -/
def Obligations.AbortKeepsItems : Prop :=
  ∀ (s : State) (x : Mismatch),
    let bit := bitClocks s.bus.rate
    let left (idle byteLeft : Nat) (rxd : Bool) : State :=
      { s with
        works := { s.works with notices := s.works.notices.raise s.cfg.noticeMask .collision }
        bus := { s.bus with flight := none, reception := .remains, idle := idle, byteLeft := byteLeft, rxd := rxd } }
    (s.bus.flight = none → exec (.abort x) s = .next s) ∧
    (s.bus.flight ≠ none →
      (x.bit % 10 = 0 → x.bit ≠ 0 → exec (.abort x) s = .next (left (bit / 2) 0 true)) ∧
      (x.bit % 10 ≠ 0 ∨ x.bit = 0 →
        exec (.abort x) s = .next
          (left 0 ((10 - x.bit % 10) * bit - bit / 2) (if x.bit % 10 = 9 then false else x.stop))))

/-! ### Frames and items -/

/-- A frame built of at most eight items that fill at most 120 bytes is judged valid, and its source, its HOLD flag and its items,
in their order with kind and body, are read back. The FAULT and CFG_OK flags of its header may have any value: the reading does
not keep them, since a receiver stores neither (R157). -/
def Obligations.FrameRoundTrip : Prop :=
  ∀ (fault hold cfgOk : Bool) (source : Station) (items : List Item),
    items.length ≤ 8 → (∀ i ∈ items, i.kind < 16 ∧ i.body.length ≤ 15) →
    (items.flatMap fun i => itemBytes i.kind i.body).length ≤ 120 →
      judge (frameBytes (headerByte fault hold cfgOk source) items.length
        (items.flatMap fun i => itemBytes i.kind i.body)) = some ⟨source, hold, items⟩

/-- By the layouts of section 8.10 an AXIS report, a tag and an action are read back whole from their bytes. Of a response the
requester, the transaction id, the result and the data are read back, and of the command code byte its low five bits only: an
RSP item carries no more of it (R153, R174), so bits 7 to 5 of an unknown code are not in it. -/
def Obligations.LayoutsRoundTrip : Prop :=
  (∀ r : AxisReport, axisReportOf (axisBody r) = some r) ∧
  (∀ t : Tag, tagOf (tagBody t) = some t) ∧
  (∀ a : Option Action, ∃ b0 b1 b2, actionBytes a = [b0, b1, b2] ∧ actionOf b0 b1 b2 = a) ∧
  (∀ r : Response, ∃ b0 b1 b2, responseBody r = b0 :: b1 :: b2 :: r.data ∧
    b0.extractLsb' 0 5 = r.requester ∧ b1 = r.tid ∧ b2.extractLsb' 0 5 = r.code.extractLsb' 0 5 ∧
    b2.extractLsb' 5 3 = (r.result.code.extractLsb' 0 3))

/-! ### The mirrors and the line state -/

/-- An AXIS item is checked in the order of R104; only one that passes every check is a report. -/
def Obligations.AxisItemChecked : Prop :=
  ∀ (s : State) (source : Station) (r : AxisReport),
    (s.startup.status ≠ .valid → s.applyAxisItem source r = (none, s)) ∧
    (s.startup.status = .valid →
      (r.lineAxis.toNat / 2 ≠ source.toNat → s.applyAxisItem source r = (none, s.raise .badFrame)) ∧
      (r.lineAxis.toNat / 2 = source.toNat →
        ((∀ i, (s.cfg.mirrors.get i).lineAxis ≠ some r.lineAxis) → s.applyAxisItem source r = (none, s)) ∧
        ∀ i, (s.cfg.mirrors.get i).lineAxis = some r.lineAxis →
          (∀ j, (s.cfg.mirrors.get j).lineAxis = some r.lineAxis → j = i) →
          (r.kind ≠ (s.cfg.mirrors.get i).kind → s.applyAxisItem source r = (none, s.raise .badFrame)) ∧
          (r.kind = (s.cfg.mirrors.get i).kind →
            (r.kind = .ring → (s.cfg.mirrors.get i).modulus ≤ r.position.toNat →
              s.applyAxisItem source r = (none, s.raise .badFrame)) ∧
            (r.kind = .track ∨ r.position.toNat < (s.cfg.mirrors.get i).modulus →
              s.applyAxisItem source r = (some i, s.applyReport i r)))))

/-- What a report makes of its mirror and which event it delivers, by the table of R105. At a recovery the axis state change comes
before the silent passage: R108 lets them come in either order, with one outcome (deduced, log entry 18). A change to ACTIVE
keeps the entries of the handle that are ahead of its position, in their order; the others leave, each raising MISSED (R38). A
change to a state other than ACTIVE holds every entry and releases every DISTANCE pulse on the handle (R10, R96). An epoch
change discards the entries, each raising EPOCH_DISCARD, ends the lockouts, sets the rings to entry 0 and releases the pulses
(R9). In each the windows on the handle recompute and the lines that follow them take a changed flag (R81); no action reaches a
line, no tag is forwarded, and nothing else changes. -/
def Obligations.ReportApplied : Prop :=
  (∀ (s : State) (i : Fin 6) (r : AxisReport),
      let m := s.mirrors.get i
      let h := mirrorHandle i
      let t := s.applyReport i r
      let taken : State := s.withMirror i ⟨.active, r.epoch, r.position, r.direction⟩
      t = { s with mirrors := t.mirrors, works := t.works } ∧ (∀ j, j ≠ i → t.mirrors.get j = s.mirrors.get j) ∧
      (r.faulted = true →
        t.mirrors.get i = { m with state := .remoteFault } ∧
        (m.state ≠ .active → t.works = s.works) ∧
        (m.state = .active → t = (s.withMirror i { m with state := .remoteFault }).stopsBeingActive h)) ∧
      (r.faulted = false →
        t.mirrors.get i = ⟨.active, r.epoch, r.position, r.direction⟩ ∧
        (r.epoch ≠ m.epoch → t = taken.epochChange h) ∧
        (r.epoch = m.epoch →
          (m.state = .unseen → t = taken.becomesActive h) ∧
          (m.state = .active → r.position = m.position → t = taken) ∧
          (m.state = .active → ∀ mv, moveOf (s.cfg.geometry h) m.position r.position = some mv →
            (mv.distance ≤ s.cfg.jumpLimit → t = taken.positionEvent h mv) ∧
            (s.cfg.jumpLimit < mv.distance → t = (taken.raise .mirrorJump).silentPassage h mv)) ∧
          (m.state = .stale ∨ m.state = .remoteFault →
            (r.position = m.position → t = taken.becomesActive h) ∧
            ∀ mv, moveOf (s.cfg.geometry h) m.position r.position = some mv →
              t = (taken.becomesActive h).silentPassage h mv)))) ∧
  (∀ (s : State) (h : Handle) (m : Move),
      s.positionEvent h m = { s with works := s.works.positionEvent s.env h m } ∧
      s.silentPassage h m = { s with works := s.works.silentPassage s.env h m }) ∧
  ∀ (s : State) (h : Handle),
    let w := s.works
    let raised (k : NoticeKind) (n : Nat) : Notices := w.notices.raised s.cfg.noticeMask k n
    let ahead (e : Entry) : Bool := isAhead e.due (s.env.position h)
    (∃ t : Works,
      s.becomesActive h = { s with works := t } ∧
      t = { w with
        queues := w.queues.put h ((w.queues.get h).filter ahead)
        notices := raised .missed ((w.queues.get h).filter fun e => !ahead e).length
        windows := t.windows, outputs := t.outputs } ∧
      (w.notices.counters.get 4 ≤ 65535 → t.notices.counters.get 4 =
        min 65535 (w.notices.counters.get 4 + ((w.queues.get h).filter fun e => !ahead e).length)) ∧
      (∀ k, k ≠ 4 → t.notices.counters.get k = w.notices.counters.get k) ∧
      w.WindowsFollow s.env h w.outputs t) ∧
    (∃ t : Works,
      s.stopsBeingActive h = { s with works := t } ∧
      t = { w with windows := t.windows, outputs := t.outputs } ∧
      w.WindowsFollow s.env h (releasedOn h (fun _ => true) w.outputs) t ∧
      (s.env.active h = false → ∀ k, (s.cfg.windows.get k).handle = some h → (t.windows.get k).flag = false)) ∧
    ∃ t : Works,
      s.epochChange h = { s with works := t } ∧
      t = { w with
        queues := w.queues.put h [], notices := raised .epochDiscard (w.queues.get h).length
        sensors := t.sensors, rings := t.rings, windows := t.windows, outputs := t.outputs } ∧
      (w.notices.counters.get 6 ≤ 65535 → t.notices.counters.get 6 =
        min 65535 (w.notices.counters.get 6 + (w.queues.get h).length)) ∧
      (∀ k, k ≠ 6 → t.notices.counters.get k = w.notices.counters.get k) ∧
      (∀ k, t.sensors.get k =
        if (s.cfg.sensors.get k).capture = some h then { w.sensors.get k with lockout := 0 } else w.sensors.get k) ∧
      (∀ r, t.rings.get r =
        if (s.cfg.rings.get r).handle = some h then { w.rings.get r with pointer := 0 } else w.rings.get r) ∧
      w.WindowsFollow s.env h (releasedOn h (fun _ => true) w.outputs) t

/-- The line state is RUN exactly when the four conditions of R164 hold. -/
def Obligations.LineStateRun : Prop :=
  ∀ s : State,
    s.run = true ↔
      s.bus.station = .rotating ∧
      s.holdIn.asserted = false ∧ ¬(s.cfg.holdOnFault = true ∧ ∃ i, (s.axes.get i).state = .faulted) ∧
      (∀ n : Station, n ≠ s.bus.number → (s.roster.get (stationIndex n)).state = .present →
        (s.roster.get (stationIndex n)).hold = false) ∧
      ∀ n : Station, s.cfg.essential.getLsbD n.toNat = true → (s.roster.get (stationIndex n)).state = .present

/-! ### Console commands: taking one -/

/-- The steps of R171 for every console command: ignored outside ROTATING, dropped with CMD_DROPPED when the four response places
are in use, answered from the cache when the record holds its id, and executed otherwise: then its response stands at the
tail of the transmit queue and in the requester's record, and in no other. -/
def Obligations.CommandTaken : Prop :=
  ∀ (s : State) (i : Instr) (requester : Station) (tid : Byte), console i = some (requester, tid) →
    (s.bus.station ≠ .rotating → exec i s = .next s) ∧
    (s.bus.station = .rotating →
      (4 ≤ s.works.responsesHeld →
        exec i s = .next
          { s with works := { s.works with notices := s.works.notices.raise s.cfg.noticeMask .cmdDropped } }) ∧
      (s.works.responsesHeld < 4 → ∀ x, s.command.cache.get (stationIndex requester) = some x → x.tid = tid →
        exec i s = .next { s with works := { s.works with txQueue := s.works.txQueue ++ [.rsp x.response] } })) ∧
    (s.Reaches requester tid →
      ∃ t x l, exec i s = .next t ∧ x.requester = requester ∧ x.tid = tid ∧
        t.works.txQueue = l ++ [.rsp x] ∧ (∀ y, .rsp y ∈ l ↔ .rsp y ∈ s.works.txQueue) ∧
        t.command.cache = s.command.cache.put (stationIndex requester) (some ⟨tid, x⟩))

/-- The answers of R173 that come before a command's own checks: NOT_PERMITTED for a requester outside the console set; with the
configuration not valid, BAD_STATE for every known command but READ_STATUS; and UNKNOWN_COMMAND, in either configuration status,
for an unknown code. Nothing changes but the answer; NOT_PERMITTED and UNKNOWN_COMMAND do not count as
commands executed. -/
def Obligations.CommandRefused : Prop :=
  (∀ (s : State) (i : Instr) (requester : Station) (tid : Byte), console i = some (requester, tid) →
      s.Reaches requester tid →
      (s.startup.status = .valid → s.cfg.console.getLsbD requester.toNat = false →
        ∃ x, exec i s = .next (s.responded x) ∧ x.requester = requester ∧ x.tid = tid ∧ x.result = .notPermitted ∧
          x.data = []) ∧
      (s.startup.status ≠ .valid →
        (∀ page handle, i ≠ .readStatus requester tid page handle) → (∀ code, i ≠ .unknownCommand requester tid code) →
        ∃ x, exec i s = .next (s.answered x) ∧ x.requester = requester ∧ x.tid = tid ∧ x.result = .badState ∧ x.data = [])) ∧
  (∀ (s : State) (requester : Station) (tid code : Byte),
      s.Reaches requester tid → (s.startup.status = .valid → s.cfg.console.getLsbD requester.toNat = true) →
      code = 0 ∨ 13 < code.toNat →
        exec (.unknownCommand requester tid code) s = .next
          (s.responded ⟨requester, tid, code, .unknownCommand, []⟩))

/-! ### Console commands: what each does -/

/-- READ_STATUS answers with the page asked for and changes nothing but the answer; another page, or page 1 with a handle above 7,
is BAD_PARAM. With the configuration not valid it is executed for any requester, and page 0 shows status 1 and the failing
check. Page 1 shows the configured kind of an unused mirror and of an axis in mode OFF (deduced, log entry 12). The bits that the
layouts give no content, 7 to 4 of page 0 byte 2 and 6 of page 1 byte 1, read 0 (the model's choice, log entry 21). -/
def Obligations.ReadStatusAnswers : Prop :=
  ∀ (s : State) (requester : Station) (tid page handle : Byte), s.Reaches requester tid →
    s.startup.status = .valid ∧ s.cfg.console.getLsbD requester.toNat = true ∨ s.startup.status = .invalid →
    ∃ result data,
      exec (.readStatus requester tid page handle) s = .next (s.answered ⟨requester, tid, 1, result, data⟩) ∧
      (6 < page.toNat ∨ page = 1 ∧ 8 ≤ handle.toNat → result = .badParam ∧ data = []) ∧
      (page.toNat ≤ 6 → (page = 1 → handle.toNat < 8) → result = .ok) ∧
      (page = 0 → data =
        [ if s.startup.status = .valid then 0 else 1
        , BitVec.ofNat 8 s.startup.failingCheck
        , BitVec.ofNat 8 ((if s.run then 0 else 1) + (if s.holdIn.asserted then 2 else 0) +
            (if s.cfg.holdOnFault && s.axisFault then 4 else 0) + (if s.axisFault then 8 else 0))
        , BitVec.ofNat 8 s.works.entries.length
        , BitVec.ofNat 8 s.works.txQueue.length
        , BitVec.ofNat 8 s.works.responsesHeld
        , if s.command.restartPending then 1 else 0 ] ++ bytes16 s.nextSequence ++
        [BitVec.ofNat 8 ((List.finRange 16).countP fun k => decide (s.works.notices.pending.get k ≠ 0))]) ∧
      (page = 1 →
        let shows (state : Nat) (kind : AxisKind) (d : Option Direction) (epoch : BitVec 4) (id : Nat) (position : Pos)
            (arm : Option (BitVec 32)) : Prop :=
          data =
            [BitVec.ofNat 8 state,
              BitVec.ofNat 8 ((if kind = .ring then 128 else 0) + 16 * (match d with
                | none => 0
                | some .fwd => 1
                | some .rev => 2) + epoch.toNat),
              BitVec.ofNat 8 id] ++
            bytes32 position ++
            (match arm with
              | none => [0, 0, 0, 0, 0]
              | some v => 1 :: bytes32 v)
        (∀ i : Fin 2, i.val = handle.toNat →
          let x := s.axes.get i
          shows (match x.state with
            | .off => 0
            | .active => 1
            | .faulted => 2) (s.cfg.axes.get i).kind x.lastDirection x.epoch (2 * s.bus.number.toNat + i.val) x.position x.arm) ∧
        ∀ i : Fin 6, 2 + i.val = handle.toNat →
          let m := s.mirrors.get i
          shows (match m.state with
            | .unseen => 3
            | .active => 1
            | .stale => 4
            | .remoteFault => 5) (s.cfg.mirrors.get i).kind m.lastDirection m.epoch
            (match (s.cfg.mirrors.get i).lineAxis with
              | none => 255
              | some id => id.toNat) m.position none) ∧
      (∀ p : Nat, p < 3 → page.toNat = 2 + p → data =
        (List.range 6).flatMap fun j =>
          bytes16 (BitVec.ofNat 16 (s.works.notices.counters.toList.getD (6 * p + j) 0))) ∧
      (page = 5 → data = bytes16 (BitVec.ofNat 16 (s.works.notices.counters.get 18))) ∧
      (page = 6 → ∃ present absent hold : BitVec 32, data = bytes32 present ++ bytes32 absent ++ bytes32 hold ∧
        ∀ n : Station,
          (present.getLsbD n.toNat = true ↔ (s.roster.get (stationIndex n)).state = .present) ∧
          (absent.getLsbD n.toNat = true ↔ (s.roster.get (stationIndex n)).state = .absent) ∧
          hold.getLsbD n.toNat = (s.roster.get (stationIndex n)).hold)

/-- READ_QUEUE answers with the entry at the place asked for in the order of the handle, and changes nothing but the answer. -/
def Obligations.ReadQueueAnswers : Prop :=
  ∀ (s : State) (requester : Station) (tid handle index : Byte), s.Executes requester tid →
    (∀ h : Handle, h.val = handle.toNat → ∀ e, (s.works.queues.get h)[index.toNat]? = some e →
      ∃ data,
        exec (.readQueue requester tid handle index) s = .next (s.answered ⟨requester, tid, 2, .ok, data⟩) ∧
        data = [BitVec.ofNat 8 ((if e.forward then 128 else 0) + 32 * e.hop.toNat + e.origin.toNat)] ++
          bytes16 e.sequence ++
          [BitVec.ofNat 8 (16 * e.tagClass.toNat + e.epoch.toNat),
            match e.source with
              | .rule k => BitVec.ofNat 8 k.val
              | .injected => 8] ++
          bytes32 e.due ++ actionBytes e.action) ∧
    (8 ≤ handle.toNat ∨ (∃ h : Handle, h.val = handle.toNat ∧ (s.works.queues.get h).length ≤ index.toNat) →
      exec (.readQueue requester tid handle index) s = .next (s.answered ⟨requester, tid, 2, .badParam, []⟩))

/-- TRIM_CAM sets the position of one entry of a ring in use. ARM naming a cam ring in use arms it at the start entry, or disarms
it with its pointer kept and the start entry not read. Neither changes anything else. -/
def Obligations.RingCommands : Prop :=
  (∀ (s : State) (requester : Station) (tid ring entry : Byte) (position : BitVec 32), s.Executes requester tid →
      (∀ (r : Fin 4) (h : Handle), r.val = ring.toNat → (s.cfg.rings.get r).handle = some h →
        entry.toNat < (s.cfg.rings.get r).entries.length →
        ((s.cfg.geometry h).kind = .ring → position.toNat < (s.cfg.geometry h).modulus) →
          exec (.trimCam requester tid ring entry position) s = .next
            (State.answered
              { s with works := { s.works with
                rings := s.works.rings.put r
                  { s.works.rings.get r with positions := (s.works.rings.get r).positions.set entry.toNat position } } }
              ⟨requester, tid, 3, .ok, []⟩)) ∧
      ((∀ r : Fin 4, r.val = ring.toNat → ∀ h, (s.cfg.rings.get r).handle = some h →
          (s.cfg.rings.get r).entries.length ≤ entry.toNat ∨
            (s.cfg.geometry h).kind = .ring ∧ (s.cfg.geometry h).modulus ≤ position.toNat) →
        exec (.trimCam requester tid ring entry position) s = .next (s.answered ⟨requester, tid, 3, .badParam, []⟩))) ∧
  (∀ (s : State) (requester : Station) (tid index arm start : Byte), s.Executes requester tid →
      let set (r : Fin 4) (x : Ring) : State := { s with works := { s.works with rings := s.works.rings.put r x } }
      (∀ r : Fin 4, r.val = index.toNat → (s.cfg.rings.get r).handle ≠ none →
        (arm = 1 → start.toNat < (s.cfg.rings.get r).entries.length →
          exec (.armRing requester tid index arm start) s = .next
            (State.answered (set r { s.works.rings.get r with armed := true, pointer := start.toNat })
              ⟨requester, tid, 6, .ok, []⟩)) ∧
        (arm = 0 →
          exec (.armRing requester tid index arm start) s = .next
            (State.answered (set r { s.works.rings.get r with armed := false }) ⟨requester, tid, 6, .ok, []⟩))) ∧
      (1 < arm.toNat ∨
          (∀ r : Fin 4, r.val = index.toNat →
            (s.cfg.rings.get r).handle = none ∨ arm = 1 ∧ (s.cfg.rings.get r).entries.length ≤ start.toNat) →
        exec (.armRing requester tid index arm start) s = .next (s.answered ⟨requester, tid, 6, .badParam, []⟩)))

/-- TRIM_RULE sets a rule's offset, in −2^30 to +2^30; entries already in the queue keep their due positions. ARM naming a tag rule
sets its armed flag; the start entry is not read. Neither changes anything else. -/
def Obligations.RuleCommands : Prop :=
  (∀ (s : State) (requester : Station) (tid rule : Byte) (offset : BitVec 32), s.Executes requester tid →
      (∀ k : Fin 8, k.val = rule.toNat → -1073741824 ≤ offset.toInt → offset.toInt ≤ 1073741824 →
        exec (.trimRule requester tid rule offset) s = .next
          (State.answered { s with rules := s.rules.put k { s.rules.get k with offset := offset } }
            ⟨requester, tid, 4, .ok, []⟩)) ∧
      (8 ≤ rule.toNat ∨ offset.toInt < -1073741824 ∨ 1073741824 < offset.toInt →
        exec (.trimRule requester tid rule offset) s = .next (s.answered ⟨requester, tid, 4, .badParam, []⟩))) ∧
  (∀ (s : State) (requester : Station) (tid index arm start : Byte), s.Executes requester tid →
      (∀ k : Fin 8, k.val = index.toNat → arm = 0 ∨ arm = 1 →
        exec (.armRule requester tid index arm start) s = .next
          (State.answered { s with rules := s.rules.put k { s.rules.get k with armed := decide (arm = 1) } }
            ⟨requester, tid, 6, .ok, []⟩)) ∧
      (8 ≤ index.toNat ∨ 1 < arm.toNat →
        exec (.armRule requester tid index arm start) s = .next (s.answered ⟨requester, tid, 6, .badParam, []⟩)))

/-- TRIM_WINDOW sets both bounds of a window in use, on a TRACK axis with upper at a signed difference of 0 or more from lower, on a
RING axis both below M, and recomputes its flag at once; a change of the flag is handed to the WINDOW
lines that follow the window, which show it in NORMAL alone; nothing else changes. -/
def Obligations.TrimWindowSets : Prop :=
  ∀ (s : State) (requester : Station) (tid window : Byte) (lower upper : BitVec 32), s.Executes requester tid →
    let admitted (h : Handle) : Prop :=
      ((s.cfg.geometry h).kind = .track → 0 ≤ signedDifference upper lower) ∧
      ((s.cfg.geometry h).kind = .ring →
        lower.toNat < (s.cfg.geometry h).modulus ∧ upper.toNat < (s.cfg.geometry h).modulus)
    (∀ (k : Fin 8) (h : Handle), k.val = window.toNat → (s.cfg.windows.get k).handle = some h →
      admitted h →
      let flag := s.env.active h && inWindow (s.cfg.geometry h) lower upper (s.env.position h)
      ∃ t, exec (.trimWindow requester tid window lower upper) s = .next (State.answered t ⟨requester, tid, 5, .ok, []⟩) ∧
        t = { s with works := { s.works with windows := t.works.windows, outputs := t.works.outputs } } ∧
        t.works.windows = s.works.windows.put k ⟨lower, upper, flag⟩ ∧
        ∀ q,
          let o := s.works.outputs.get q
          t.works.outputs.get q =
            if flag ≠ (s.works.windows.get k).flag ∧ (s.cfg.outputs.get q).mode = .window ∧
                (s.cfg.outputs.get q).followed = some k then
              { o with followed := flag, level := if o.condition = .normal then flag else o.level }
            else o) ∧
    ((∀ k : Fin 8, k.val = window.toNat → ∀ h, (s.cfg.windows.get k).handle = some h →
        ¬admitted h) →
      exec (.trimWindow requester tid window lower upper) s = .next (s.answered ⟨requester, tid, 5, .badParam, []⟩))

/-- SET_ORIGIN makes the origin event of a local axis; ARM_INDEX sets its index arm and cancel clears it. A handle above 1 is
BAD_PARAM, then an axis in mode OFF is BAD_STATE, then a value of M or more on a RING axis is BAD_PARAM, which a cancel does
not check. That a cancel on an axis in mode OFF is BAD_STATE too is deduced (log entry 16). -/
def Obligations.OriginCommands : Prop :=
  ∀ (s : State) (requester : Station) (tid handle : Byte) (value : BitVec 32), s.Executes requester tid →
    (∀ i : Fin 2, i.val = handle.toNat →
      let fits := (s.cfg.axes.get i).kind = .ring → value.toNat < (s.cfg.axes.get i).modulus
      let armed (a : Option (BitVec 32)) : State := { s with axes := s.axes.put i { s.axes.get i with arm := a } }
      ((s.cfg.axes.get i).mode ≠ .off →
        (fits →
          exec (.setOrigin requester tid handle value) s =
            .next ((s.originEvent i value).answered ⟨requester, tid, 7, .ok, []⟩) ∧
          exec (.armIndex requester tid handle value) s =
            .next ((armed (some value)).answered ⟨requester, tid, 8, .ok, []⟩)) ∧
        (¬fits →
          exec (.setOrigin requester tid handle value) s = .next (s.answered ⟨requester, tid, 7, .badParam, []⟩) ∧
          exec (.armIndex requester tid handle value) s = .next (s.answered ⟨requester, tid, 8, .badParam, []⟩)) ∧
        exec (.armIndexCancel requester tid handle) s =
          .next ((armed none).answered ⟨requester, tid, 8, .ok, []⟩)) ∧
      ((s.cfg.axes.get i).mode = .off →
        exec (.setOrigin requester tid handle value) s = .next (s.answered ⟨requester, tid, 7, .badState, []⟩) ∧
        exec (.armIndex requester tid handle value) s = .next (s.answered ⟨requester, tid, 8, .badState, []⟩) ∧
        exec (.armIndexCancel requester tid handle) s = .next (s.answered ⟨requester, tid, 8, .badState, []⟩))) ∧
    (2 ≤ handle.toNat →
      exec (.setOrigin requester tid handle value) s = .next (s.answered ⟨requester, tid, 7, .badParam, []⟩) ∧
      exec (.armIndex requester tid handle value) s = .next (s.answered ⟨requester, tid, 8, .badParam, []⟩) ∧
      exec (.armIndexCancel requester tid handle) s = .next (s.answered ⟨requester, tid, 8, .badParam, []⟩))

/-- INJECT_ENTRY checks its handle and its action, then offers one entry of the requester on the epoch of the axis, and its result
follows from the queue's outcome. That a local TRACK axis in mode OFF reaches the queue, which refuses it, is deduced (log
entry 16). -/
def Obligations.InjectEntryOffers : Prop :=
  ∀ (s : State) (requester : Station) (tid handle : Byte) (due : BitVec 32) (sequence : BitVec 16)
    (tagClass : BitVec 4) (forward : Bool) (action : Option Action), s.Executes requester tid →
    let suits (h : Handle) : Prop := match axisRef h with
      | .loc i => (s.cfg.axes.get i).kind = .track
      | .mir i => (s.cfg.mirrors.get i).lineAxis ≠ none ∧ (s.cfg.mirrors.get i).kind = .track
    let acts : Prop := ∀ a, action = some a →
      (s.cfg.outputs.get a.line).mode = .action ∧ a.operation ≠ .pulseTime 0 ∧ a.operation ≠ .pulseDist 0
    (∀ h : Handle, h.val = handle.toNat → suits h → acts →
      let r := s.works.offer s.env h
        { origin := requester, sequence := sequence, source := .injected, tagClass := tagClass, hop := 0
          epoch := s.env.epoch h, due := due, action := action, forward := forward, stamp := 0 }
      ∃ result,
        exec (.injectEntry requester tid handle due sequence tagClass forward action) s = .next
          (State.answered { s with works := r.2 } ⟨requester, tid, 9, result, []⟩) ∧
        (r.1 = .inserted ∨ r.1 = .lateFired → result = .ok) ∧ (r.1 = .queueFull → result = .noRoom) ∧
        (r.1 = .lateDrop ∨ r.1 = .unmapped → result = .badState) ∧ (r.1 = .duplicate → result = .badParam) ∧
        r.1 ≠ .epochDiscard) ∧
    ((∀ h : Handle, h.val = handle.toNat → ¬suits h) ∨ ¬acts →
      exec (.injectEntry requester tid handle due sequence tagClass forward action) s =
        .next (s.answered ⟨requester, tid, 9, .badParam, []⟩))

/-- CLEAR_QUEUE removes every entry of one handle, or of all for FFh, answers how many, and raises nothing. CLEAR_COUNTS leaves
every counter 0 but COMMANDS_EXECUTED, which then reads 1, and the pending records as they are. RESTART sets the
restart-pending flag, and nothing else happens until a frame that carries its answer completes. -/
def Obligations.ClearsAndRestart : Prop :=
  ((∀ (s : State) (requester : Station) (tid handle : Byte), s.Executes requester tid →
        (∀ h : Handle, h.val = handle.toNat →
          exec (.clearQueue requester tid handle) s = .next
            (State.answered { s with works := { s.works with queues := s.works.queues.put h [] } }
              ⟨requester, tid, 0x0A, .ok, [BitVec.ofNat 8 (s.works.queues.get h).length]⟩)) ∧
        (handle = 0xFF →
          ∃ queues, (∀ h, Bank.get queues h = []) ∧
            exec (.clearQueue requester tid handle) s = .next
              (State.answered { s with works := { s.works with queues := queues } }
                ⟨requester, tid, 0x0A, .ok, [BitVec.ofNat 8 s.works.entries.length]⟩)) ∧
        (8 ≤ handle.toNat → handle ≠ 0xFF →
          exec (.clearQueue requester tid handle) s = .next (s.answered ⟨requester, tid, 0x0A, .badParam, []⟩))) ∧
    (∀ (s : State) (requester : Station) (tid : Byte), s.Executes requester tid →
        ∃ counters, (∀ k, k ≠ 18 → Bank.get counters k = 0) ∧ Bank.get counters 18 = 1 ∧
          exec (.clearCounts requester tid) s = .next
            { s.responded ⟨requester, tid, 0x0B, .ok, []⟩ with
              works := { (s.responded ⟨requester, tid, 0x0B, .ok, []⟩).works with
                notices := { s.works.notices with counters := counters } } })) ∧
  (∀ (s : State) (requester : Station) (tid : Byte), s.Executes requester tid →
      exec (.restart requester tid) s = .next
        (State.answered { s with command := { s.command with restartPending := true } } ⟨requester, tid, 0x0D, .ok, []⟩))

/-- PULSE_OUTPUT hands PULSE_TIME to an ACTION line in NORMAL; the parameters are checked first, then the condition. -/
def Obligations.PulseOutputPulses : Prop :=
  ∀ (s : State) (requester : Station) (tid line : Byte) (width : BitVec 16), s.Executes requester tid →
    (∀ q : Fin 8, q.val = line.toNat → width ≠ 0 → (s.cfg.outputs.get q).mode = .action →
      ((s.works.outputs.get q).condition = .normal →
        exec (.pulseOutput requester tid line width) s = .next
          (State.answered
            { s with works := { s.works with
              outputs := s.works.outputs.put q
                { s.works.outputs.get q with level := true, pulse := .timed width.toNat 0 } } }
            ⟨requester, tid, 0x0C, .ok, []⟩)) ∧
      ((s.works.outputs.get q).condition ≠ .normal →
        exec (.pulseOutput requester tid line width) s =
          .next (s.answered ⟨requester, tid, 0x0C, .badState, []⟩))) ∧
    (8 ≤ line.toNat ∨ width = 0 ∨ (∃ q : Fin 8, q.val = line.toNat ∧ (s.cfg.outputs.get q).mode = .window) →
      exec (.pulseOutput requester tid line width) s = .next (s.answered ⟨requester, tid, 0x0C, .badParam, []⟩))

/-! ### Notices -/

/-- A raising advances the kind's counter, which stops at 65535, and, when the kind is enabled, its pending count, which stops at
255; no other count changes. The ranges of R195 are kept, and two raisings give the same counts in either order. -/
def Obligations.RaisingCounts : Prop :=
  ∀ (mask : BitVec 16) (k : NoticeKind) (x : Notices),
    (∀ j : Fin 19, (x.raise mask k).counters.get j =
      if j.val = k.code.val then min 65535 (x.counters.get j + 1) else x.counters.get j) ∧
    (∀ j : Fin 16, (x.raise mask k).pending.get j =
      if j = k.code ∧ mask.getLsbD j.val = true then min 255 (x.pending.get j + 1) else x.pending.get j) ∧
    ((∀ j, x.counters.get j ≤ 65535) → ∀ j, (x.raise mask k).counters.get j ≤ 65535) ∧
    ((∀ j, x.pending.get j ≤ 255) → ∀ j, (x.raise mask k).pending.get j ≤ 255) ∧
    ∀ k', Notices.raise mask k' (x.raise mask k) = Notices.raise mask k (x.raise mask k')

/-! ### The timers -/

/-- TIMED_PULSE_EXPIRY brings the line to level 0 with its pulse IDLE, and leaves a line with no TIMED pulse as it is. A step without
a command is one CLK_IN period of 50 ns, in which nothing happens while the device is held in reset. Otherwise each TIMED pulse
loses one of the 200 periods of its unit of 10 µs, each pending change of a running filter one period of its time, and the
receiver counts one period of a byte, or of idle while BUS_RXD is at 1 outside a byte, and the wait the same idle. Then the
rows whose time has come act, in some order, each only if it is still due. The tick is the model's own, and so is that these
rows given as commands act without a comparison of times (log entry 5, a design choice); the order is a free value (log
entry 2). -/
def Obligations.TimersRun : Prop :=
  (∀ (s : State) (q : Fin 8),
      (∀ r g, (s.works.outputs.get q).pulse = .timed r g →
        exec (.timedPulseExpiry q) s = .next
          { s with works := { s.works with
            outputs := s.works.outputs.put q { s.works.outputs.get q with level := false, pulse := .idle } } }) ∧
      ((∀ r g, (s.works.outputs.get q).pulse ≠ .timed r g) → exec (.timedPulseExpiry q) s = .next s)) ∧
  (∀ s : State,
      (s.held = true → s.tick = s) ∧
      (s.held = false →
        ∃ (t : State) (l : List Alarm) (c : Nat),
          t = { s with
            works := { s.works with sensors := t.works.sensors, outputs := t.works.outputs }
            holdIn := { s.holdIn with pending := s.holdIn.pending.map fun n => n + 1 }
            bus := t.bus } ∧
          (∀ k, t.works.sensors.get k =
            if s.bus.station ≠ .loading ∧ s.startup.status = .valid then
              { s.works.sensors.get k with pending := (s.works.sensors.get k).pending.map fun n => n + 1 }
            else s.works.sensors.get k) ∧
          (∀ q, t.works.outputs.get q =
            match (s.works.outputs.get q).pulse with
            | .timed r g => { s.works.outputs.get q with pulse := if g + 1 < 200 then .timed r (g + 1) else .timed (r - 1) 0 }
            | _ => s.works.outputs.get q) ∧
          t.bus =
            (if s.bus.station = .loading ∨ s.bus.flight ≠ none then s.bus
            else if 0 < s.bus.byteLeft then { s.bus with byteLeft := s.bus.byteLeft - 1 }
            else if s.bus.rxd = false then s.bus
            else { s.bus with
              idle := s.bus.idle + 1, wait := s.bus.wait.map fun x => { x with counted := x.counted + 1 } }) ∧
          l.Perm (Alarm.all.filter t.due) ∧ (l.length ≤ 1 → c = s.works.choice) ∧
          s.tick = l.foldl (fun u a => if u.due a then u.sound a else u) { t with works := { t.works with choice := c } })) ∧
  (∀ a : Alarm, a ∈ Alarm.all) ∧
  ∀ s : State,
    let bit := bitClocks s.bus.rate
    let hears := s.held = false ∧ s.bus.station ≠ .loading ∧ s.bus.flight = none ∧ s.bus.rxd = true
    (∀ q, (s.due (.pulse q) = true ↔ ∃ g, (s.works.outputs.get q).pulse = .timed 0 g) ∧
      exec (.timedPulseExpiry q) s = .next (s.sound (.pulse q))) ∧
    (∀ k, (s.due (.sensor k) = true ↔
        s.held = false ∧ s.bus.station ≠ .loading ∧ s.startup.status = .valid ∧
        ∃ n, (s.works.sensors.get k).pending = some n ∧
          [0, 100, 400, 1000, 4000, 20000, 100000, 400000].getD (s.cfg.sensors.get k).filter.toNat 0 ≤ n) ∧
      exec (.qualifiedChange k) s = .next (s.sound (.sensor k))) ∧
    (s.due .holdIn = true ↔ ∃ n, s.holdIn.pending = some n ∧ 20000 ≤ n) ∧
    exec .holdInQualify s = .next (s.sound .holdIn) ∧
    (s.due .frameEnd = true ↔ hears ∧ s.bus.reception ≠ .none ∧ 12 * bit < s.bus.idle) ∧
    (hears → exec .frameEndByIdle s = .next (s.sound .frameEnd)) ∧
    (s.due .emptyBus = true ↔
      hears ∧ s.bus.station = .listening ∧ s.bus.reception = .none ∧ 2072 * bit ≤ s.bus.idle) ∧
    exec .emptyBus s = .next (s.sound .emptyBus) ∧
    (s.due .wait = true ↔ s.bus.rxd = true ∧ ∃ x, s.bus.wait = some x ∧ x.length * bit ≤ x.counted) ∧
    exec .waitExpiry s = .next (s.sound .wait)

/-! ### What every step keeps -/

/-- At reset all of it holds, and a step from there is an idle one. The pin levels and the reset line that State.reset has are the
model's choice (log entry 4), and so are the tick that a step without a command is (log entry 5) and that nothing passes in it
while the device is held (log entry 14). -/
def Obligations.ResetIsSound : Prop :=
  State.reset.CountsInRange ∧ State.reset.QueueSound ∧ State.reset.TxSound ∧ State.reset.RingsSound ∧
  State.reset.LinesSound ∧ State.reset.OwnEntrySound ∧ State.reset.MirrorsSound ∧ State.reset.WindowsSound ∧
  State.reset.EntriesAhead ∧ step State.reset = .next State.reset

/-- Every step keeps the counts of the notice unit in their ranges (R195), and the transmit queue within 12 tags and 4 responses
(R145) of at most 12 data bytes each. -/
def Obligations.StepKeepsBounds : Prop :=
  (∀ s t : State, s.CountsInRange → step s = .next t → t.CountsInRange) ∧
  (∀ s t : State, s.TxSound → step s = .next t → t.TxSound)

/-- Every step keeps the trigger queue within 64 entries and its keys distinct (R23). -/
def Obligations.StepKeepsQueue : Prop := ∀ s t : State, s.QueueSound → step s = .next t → t.QueueSound

/-- Every step keeps the pointer of each ring in use below the ring's length (R69), and each window's flag the one R80 gives from
its axis. -/
def Obligations.StepKeepsCams : Prop :=
  (∀ s t : State, s.RingsSound → step s = .next t → t.RingsSound) ∧
  (∀ s t : State, s.WindowsSound → step s = .next t → t.WindowsSound)

/-- Every step keeps each output line under the condition of R88, at its safe level while FORCED. -/
def Obligations.StepKeepsLines : Prop := ∀ s t : State, s.LinesSound → step s = .next t → t.LinesSound

/-- Every step keeps the own roster entry PRESENT in ROTATING alone (R160), and a mirror ACTIVE only while its publishing station
is PRESENT (R111). -/
def Obligations.StepKeepsRoster : Prop :=
  (∀ s t : State, s.OwnEntrySound → step s = .next t → t.OwnEntrySound) ∧
  (∀ s t : State, s.MirrorsSound → step s = .next t → t.MirrorsSound)

/-- Every step keeps each entry on an ACTIVE axis strictly ahead of it (R26). -/
def Obligations.StepKeepsEntriesAhead : Prop := ∀ s t : State, s.EntriesAhead → step s = .next t → t.EntriesAhead
end

