-- ==== Sys2Proof/Laws/Bus.lean ====
section
/-! SUPPORT. When the receiver takes what the bus carries, where a frame is cut, what a frame end leaves of the bus, and
how its items are applied. -/

namespace Sys2Proof.Machine

/-- The receiver hears exactly under the four conditions of the statements. -/
theorem State.hears_iff (s : State) : s.hears = true ↔ s.Hears := by
  simp only [State.hears, State.receives, Bool.and_eq_true, Bool.not_eq_true', decide_eq_true_eq, Option.isNone_iff_eq_none]
  exact ⟨fun ⟨⟨⟨a, b⟩, c⟩, d⟩ => ⟨a, b, c, d⟩, fun ⟨a, b, c, d⟩ => ⟨⟨⟨a, b⟩, c⟩, d⟩⟩

/-- A frame that ends at its own last byte is cut nowhere else. -/
theorem cutFrame_exact (h1 h2 l : Byte) (rest more : List Byte) (hl : l.toNat ≤ 120) (hr : rest.length = l.toNat + 2) :
    cutFrame (0xC3#8 :: h1 :: h2 :: l :: (rest ++ more)) = (0xC3#8 :: h1 :: h2 :: l :: rest, more) := by
  have h : frameLength (0xC3#8 :: h1 :: h2 :: l :: (rest ++ more)) = some (rest.length + 4) := by
    simp [frameLength, hl, hr]
  simp [cutFrame, h]

/-- A valid frame is its own cut. -/
theorem cutFrame_of_judge {bytes : List Byte} {f : Frame} (h : judge bytes = some f) : cutFrame bytes = (bytes, []) := by
  unfold judge at h
  split at h
  · dsimp only at h
    split at h
    · rename_i lead h1 h2 l rest x
      obtain ⟨rfl, -, hl, hr, -⟩ := x
      simpa using cutFrame_exact h1 h2 l rest [] hl hr
    · cases h
  · cases h

/-- Bytes that a length-delimited frame does not end within are cut nowhere. -/
theorem cutFrame_whole {bytes : List Byte}
    (h : ∀ h1 h2 l rest, bytes = 0xC3#8 :: h1 :: h2 :: l :: rest → l.toNat ≤ 120 → rest.length ≤ l.toNat + 2) :
    cutFrame bytes = (bytes, []) := by
  unfold cutFrame
  cases e : frameLength bytes with
  | none => rfl
  | some n =>
    unfold frameLength at e
    split at e
    · split at e
      · rename_i lead h1 h2 l rest x
        obtain ⟨rfl, hl⟩ := x
        have hr := h h1 h2 l rest rfl hl
        cases e
        have : (0xC3#8 :: h1 :: h2 :: l :: rest).length ≤ l.toNat + 6 := by simp; omega
        simp only [List.take_of_length_le this, List.drop_of_length_le this]
      · cases e
    · cases e

/-- The wait after a frame end, as the statements give it. -/
theorem waitBits_eq (number : Station) (a : Option Station) :
    waitBits number a = 24 + 64 * ((number.toNat + 31 - (match a with
      | none => 31
      | some x => x.toNat) + 32) % 32) := by
  have hn := number.isLt
  cases a with
  | none =>
    simp only [waitBits, gapBits, slotBits, Option.getD_none, BitVec.toNat_sub]
    simp
    omega
  | some x =>
    have hx := x.isLt
    simp only [waitBits, gapBits, slotBits, Option.getD_some, BitVec.toNat_sub]
    simp
    omega

/-- What a frame end leaves of the bus. -/
theorem Bus.frameEnded_eq (b : Bus) (a : Option Station) (idle : Nat) : b.frameEnded a idle = b.afterFrame a idle := by
  cases a <;> simp only [Bus.frameEnded, Bus.afterFrame, waitBits_eq]

/-- The items of a frame are applied from the first to the last, each to the station that the ones before left. -/
theorem State.applyItems_eq (s : State) (source : Station) (taken : List (Fin 6)) (l : List Item) :
    s.applyItems source taken l = l.foldl (fun p i => p.2.applyItem source p.1 i) (taken, s) := by
  induction l generalizing s taken with
  | nil => rfl
  | cons i rest ih => exact ih _ _

end Sys2Proof.Machine
end

