-- ==== Sys2Proof/Laws/State.lean ====
section
/-! SUPPORT. What each named update of the state and of the consumer blocks leaves in each field. -/

namespace Sys2Proof.Machine

variable (s : State) (w : Works)

/-! ### State.withWorks -/

@[simp] theorem State.withWorks_pending (w : Works) :
    (s.withWorks w).pending = s.pending := rfl
@[simp] theorem State.withWorks_held (w : Works) :
    (s.withWorks w).held = s.held := rfl
@[simp] theorem State.withWorks_startup (w : Works) :
    (s.withWorks w).startup = s.startup := rfl
@[simp] theorem State.withWorks_cfg (w : Works) :
    (s.withWorks w).cfg = s.cfg := rfl
@[simp] theorem State.withWorks_bus (w : Works) :
    (s.withWorks w).bus = s.bus := rfl
@[simp] theorem State.withWorks_axes (w : Works) :
    (s.withWorks w).axes = s.axes := rfl
@[simp] theorem State.withWorks_mirrors (w : Works) :
    (s.withWorks w).mirrors = s.mirrors := rfl
@[simp] theorem State.withWorks_nextSequence (w : Works) :
    (s.withWorks w).nextSequence = s.nextSequence := rfl
@[simp] theorem State.withWorks_rules (w : Works) :
    (s.withWorks w).rules = s.rules := rfl
@[simp] theorem State.withWorks_holdIn (w : Works) :
    (s.withWorks w).holdIn = s.holdIn := rfl
@[simp] theorem State.withWorks_roster (w : Works) :
    (s.withWorks w).roster = s.roster := rfl
@[simp] theorem State.withWorks_command (w : Works) :
    (s.withWorks w).command = s.command := rfl
@[simp] theorem State.withWorks_works (w : Works) :
    (s.withWorks w).works = w := rfl

/-! ### State.withBus -/

@[simp] theorem State.withBus_pending (b : Bus) :
    (s.withBus b).pending = s.pending := rfl
@[simp] theorem State.withBus_held (b : Bus) :
    (s.withBus b).held = s.held := rfl
@[simp] theorem State.withBus_startup (b : Bus) :
    (s.withBus b).startup = s.startup := rfl
@[simp] theorem State.withBus_cfg (b : Bus) :
    (s.withBus b).cfg = s.cfg := rfl
@[simp] theorem State.withBus_bus (b : Bus) :
    (s.withBus b).bus = b := rfl
@[simp] theorem State.withBus_axes (b : Bus) :
    (s.withBus b).axes = s.axes := rfl
@[simp] theorem State.withBus_mirrors (b : Bus) :
    (s.withBus b).mirrors = s.mirrors := rfl
@[simp] theorem State.withBus_nextSequence (b : Bus) :
    (s.withBus b).nextSequence = s.nextSequence := rfl
@[simp] theorem State.withBus_rules (b : Bus) :
    (s.withBus b).rules = s.rules := rfl
@[simp] theorem State.withBus_holdIn (b : Bus) :
    (s.withBus b).holdIn = s.holdIn := rfl
@[simp] theorem State.withBus_roster (b : Bus) :
    (s.withBus b).roster = s.roster := rfl
@[simp] theorem State.withBus_command (b : Bus) :
    (s.withBus b).command = s.command := rfl
@[simp] theorem State.withBus_works (b : Bus) :
    (s.withBus b).works = s.works := rfl

/-! ### State.withAxis -/

@[simp] theorem State.withAxis_pending (i : Fin 2) (x : LocalAxis) :
    (s.withAxis i x).pending = s.pending := rfl
@[simp] theorem State.withAxis_held (i : Fin 2) (x : LocalAxis) :
    (s.withAxis i x).held = s.held := rfl
@[simp] theorem State.withAxis_startup (i : Fin 2) (x : LocalAxis) :
    (s.withAxis i x).startup = s.startup := rfl
@[simp] theorem State.withAxis_cfg (i : Fin 2) (x : LocalAxis) :
    (s.withAxis i x).cfg = s.cfg := rfl
@[simp] theorem State.withAxis_bus (i : Fin 2) (x : LocalAxis) :
    (s.withAxis i x).bus = s.bus := rfl
@[simp] theorem State.withAxis_axes (i : Fin 2) (x : LocalAxis) :
    (s.withAxis i x).axes = s.axes.put i x := rfl
@[simp] theorem State.withAxis_mirrors (i : Fin 2) (x : LocalAxis) :
    (s.withAxis i x).mirrors = s.mirrors := rfl
@[simp] theorem State.withAxis_nextSequence (i : Fin 2) (x : LocalAxis) :
    (s.withAxis i x).nextSequence = s.nextSequence := rfl
@[simp] theorem State.withAxis_rules (i : Fin 2) (x : LocalAxis) :
    (s.withAxis i x).rules = s.rules := rfl
@[simp] theorem State.withAxis_holdIn (i : Fin 2) (x : LocalAxis) :
    (s.withAxis i x).holdIn = s.holdIn := rfl
@[simp] theorem State.withAxis_roster (i : Fin 2) (x : LocalAxis) :
    (s.withAxis i x).roster = s.roster := rfl
@[simp] theorem State.withAxis_command (i : Fin 2) (x : LocalAxis) :
    (s.withAxis i x).command = s.command := rfl
@[simp] theorem State.withAxis_works (i : Fin 2) (x : LocalAxis) :
    (s.withAxis i x).works = s.works := rfl

/-! ### State.withMirror -/

@[simp] theorem State.withMirror_pending (i : Fin 6) (m : Mirror) :
    (s.withMirror i m).pending = s.pending := rfl
@[simp] theorem State.withMirror_held (i : Fin 6) (m : Mirror) :
    (s.withMirror i m).held = s.held := rfl
@[simp] theorem State.withMirror_startup (i : Fin 6) (m : Mirror) :
    (s.withMirror i m).startup = s.startup := rfl
@[simp] theorem State.withMirror_cfg (i : Fin 6) (m : Mirror) :
    (s.withMirror i m).cfg = s.cfg := rfl
@[simp] theorem State.withMirror_bus (i : Fin 6) (m : Mirror) :
    (s.withMirror i m).bus = s.bus := rfl
@[simp] theorem State.withMirror_axes (i : Fin 6) (m : Mirror) :
    (s.withMirror i m).axes = s.axes := rfl
@[simp] theorem State.withMirror_mirrors (i : Fin 6) (m : Mirror) :
    (s.withMirror i m).mirrors = s.mirrors.put i m := rfl
@[simp] theorem State.withMirror_nextSequence (i : Fin 6) (m : Mirror) :
    (s.withMirror i m).nextSequence = s.nextSequence := rfl
@[simp] theorem State.withMirror_rules (i : Fin 6) (m : Mirror) :
    (s.withMirror i m).rules = s.rules := rfl
@[simp] theorem State.withMirror_holdIn (i : Fin 6) (m : Mirror) :
    (s.withMirror i m).holdIn = s.holdIn := rfl
@[simp] theorem State.withMirror_roster (i : Fin 6) (m : Mirror) :
    (s.withMirror i m).roster = s.roster := rfl
@[simp] theorem State.withMirror_command (i : Fin 6) (m : Mirror) :
    (s.withMirror i m).command = s.command := rfl
@[simp] theorem State.withMirror_works (i : Fin 6) (m : Mirror) :
    (s.withMirror i m).works = s.works := rfl

/-! ### State.withEntry -/

@[simp] theorem State.withEntry_pending (n : Fin 32) (e : RosterEntry) :
    (s.withEntry n e).pending = s.pending := rfl
@[simp] theorem State.withEntry_held (n : Fin 32) (e : RosterEntry) :
    (s.withEntry n e).held = s.held := rfl
@[simp] theorem State.withEntry_startup (n : Fin 32) (e : RosterEntry) :
    (s.withEntry n e).startup = s.startup := rfl
@[simp] theorem State.withEntry_cfg (n : Fin 32) (e : RosterEntry) :
    (s.withEntry n e).cfg = s.cfg := rfl
@[simp] theorem State.withEntry_bus (n : Fin 32) (e : RosterEntry) :
    (s.withEntry n e).bus = s.bus := rfl
@[simp] theorem State.withEntry_axes (n : Fin 32) (e : RosterEntry) :
    (s.withEntry n e).axes = s.axes := rfl
@[simp] theorem State.withEntry_mirrors (n : Fin 32) (e : RosterEntry) :
    (s.withEntry n e).mirrors = s.mirrors := rfl
@[simp] theorem State.withEntry_nextSequence (n : Fin 32) (e : RosterEntry) :
    (s.withEntry n e).nextSequence = s.nextSequence := rfl
@[simp] theorem State.withEntry_rules (n : Fin 32) (e : RosterEntry) :
    (s.withEntry n e).rules = s.rules := rfl
@[simp] theorem State.withEntry_holdIn (n : Fin 32) (e : RosterEntry) :
    (s.withEntry n e).holdIn = s.holdIn := rfl
@[simp] theorem State.withEntry_roster (n : Fin 32) (e : RosterEntry) :
    (s.withEntry n e).roster = s.roster.put n e := rfl
@[simp] theorem State.withEntry_command (n : Fin 32) (e : RosterEntry) :
    (s.withEntry n e).command = s.command := rfl
@[simp] theorem State.withEntry_works (n : Fin 32) (e : RosterEntry) :
    (s.withEntry n e).works = s.works := rfl

/-! ### State.withCommand -/

@[simp] theorem State.withCommand_pending (c : CommandUnit) :
    (s.withCommand c).pending = s.pending := rfl
@[simp] theorem State.withCommand_held (c : CommandUnit) :
    (s.withCommand c).held = s.held := rfl
@[simp] theorem State.withCommand_startup (c : CommandUnit) :
    (s.withCommand c).startup = s.startup := rfl
@[simp] theorem State.withCommand_cfg (c : CommandUnit) :
    (s.withCommand c).cfg = s.cfg := rfl
@[simp] theorem State.withCommand_bus (c : CommandUnit) :
    (s.withCommand c).bus = s.bus := rfl
@[simp] theorem State.withCommand_axes (c : CommandUnit) :
    (s.withCommand c).axes = s.axes := rfl
@[simp] theorem State.withCommand_mirrors (c : CommandUnit) :
    (s.withCommand c).mirrors = s.mirrors := rfl
@[simp] theorem State.withCommand_nextSequence (c : CommandUnit) :
    (s.withCommand c).nextSequence = s.nextSequence := rfl
@[simp] theorem State.withCommand_rules (c : CommandUnit) :
    (s.withCommand c).rules = s.rules := rfl
@[simp] theorem State.withCommand_holdIn (c : CommandUnit) :
    (s.withCommand c).holdIn = s.holdIn := rfl
@[simp] theorem State.withCommand_roster (c : CommandUnit) :
    (s.withCommand c).roster = s.roster := rfl
@[simp] theorem State.withCommand_command (c : CommandUnit) :
    (s.withCommand c).command = c := rfl
@[simp] theorem State.withCommand_works (c : CommandUnit) :
    (s.withCommand c).works = s.works := rfl

/-! ### State.withHoldIn -/

@[simp] theorem State.withHoldIn_pending (x : HoldIn) :
    (s.withHoldIn x).pending = s.pending := rfl
@[simp] theorem State.withHoldIn_held (x : HoldIn) :
    (s.withHoldIn x).held = s.held := rfl
@[simp] theorem State.withHoldIn_startup (x : HoldIn) :
    (s.withHoldIn x).startup = s.startup := rfl
@[simp] theorem State.withHoldIn_cfg (x : HoldIn) :
    (s.withHoldIn x).cfg = s.cfg := rfl
@[simp] theorem State.withHoldIn_bus (x : HoldIn) :
    (s.withHoldIn x).bus = s.bus := rfl
@[simp] theorem State.withHoldIn_axes (x : HoldIn) :
    (s.withHoldIn x).axes = s.axes := rfl
@[simp] theorem State.withHoldIn_mirrors (x : HoldIn) :
    (s.withHoldIn x).mirrors = s.mirrors := rfl
@[simp] theorem State.withHoldIn_nextSequence (x : HoldIn) :
    (s.withHoldIn x).nextSequence = s.nextSequence := rfl
@[simp] theorem State.withHoldIn_rules (x : HoldIn) :
    (s.withHoldIn x).rules = s.rules := rfl
@[simp] theorem State.withHoldIn_holdIn (x : HoldIn) :
    (s.withHoldIn x).holdIn = x := rfl
@[simp] theorem State.withHoldIn_roster (x : HoldIn) :
    (s.withHoldIn x).roster = s.roster := rfl
@[simp] theorem State.withHoldIn_command (x : HoldIn) :
    (s.withHoldIn x).command = s.command := rfl
@[simp] theorem State.withHoldIn_works (x : HoldIn) :
    (s.withHoldIn x).works = s.works := rfl

/-! ### State.withRule -/

@[simp] theorem State.withRule_pending (k : Fin 8) (r : Rule) :
    (s.withRule k r).pending = s.pending := rfl
@[simp] theorem State.withRule_held (k : Fin 8) (r : Rule) :
    (s.withRule k r).held = s.held := rfl
@[simp] theorem State.withRule_startup (k : Fin 8) (r : Rule) :
    (s.withRule k r).startup = s.startup := rfl
@[simp] theorem State.withRule_cfg (k : Fin 8) (r : Rule) :
    (s.withRule k r).cfg = s.cfg := rfl
@[simp] theorem State.withRule_bus (k : Fin 8) (r : Rule) :
    (s.withRule k r).bus = s.bus := rfl
@[simp] theorem State.withRule_axes (k : Fin 8) (r : Rule) :
    (s.withRule k r).axes = s.axes := rfl
@[simp] theorem State.withRule_mirrors (k : Fin 8) (r : Rule) :
    (s.withRule k r).mirrors = s.mirrors := rfl
@[simp] theorem State.withRule_nextSequence (k : Fin 8) (r : Rule) :
    (s.withRule k r).nextSequence = s.nextSequence := rfl
@[simp] theorem State.withRule_rules (k : Fin 8) (r : Rule) :
    (s.withRule k r).rules = s.rules.put k r := rfl
@[simp] theorem State.withRule_holdIn (k : Fin 8) (r : Rule) :
    (s.withRule k r).holdIn = s.holdIn := rfl
@[simp] theorem State.withRule_roster (k : Fin 8) (r : Rule) :
    (s.withRule k r).roster = s.roster := rfl
@[simp] theorem State.withRule_command (k : Fin 8) (r : Rule) :
    (s.withRule k r).command = s.command := rfl
@[simp] theorem State.withRule_works (k : Fin 8) (r : Rule) :
    (s.withRule k r).works = s.works := rfl

/-! ### State.withSensor -/

@[simp] theorem State.withSensor_pending (k : Fin 4) (x : Sensor) :
    (s.withSensor k x).pending = s.pending := rfl
@[simp] theorem State.withSensor_held (k : Fin 4) (x : Sensor) :
    (s.withSensor k x).held = s.held := rfl
@[simp] theorem State.withSensor_startup (k : Fin 4) (x : Sensor) :
    (s.withSensor k x).startup = s.startup := rfl
@[simp] theorem State.withSensor_cfg (k : Fin 4) (x : Sensor) :
    (s.withSensor k x).cfg = s.cfg := rfl
@[simp] theorem State.withSensor_bus (k : Fin 4) (x : Sensor) :
    (s.withSensor k x).bus = s.bus := rfl
@[simp] theorem State.withSensor_axes (k : Fin 4) (x : Sensor) :
    (s.withSensor k x).axes = s.axes := rfl
@[simp] theorem State.withSensor_mirrors (k : Fin 4) (x : Sensor) :
    (s.withSensor k x).mirrors = s.mirrors := rfl
@[simp] theorem State.withSensor_nextSequence (k : Fin 4) (x : Sensor) :
    (s.withSensor k x).nextSequence = s.nextSequence := rfl
@[simp] theorem State.withSensor_rules (k : Fin 4) (x : Sensor) :
    (s.withSensor k x).rules = s.rules := rfl
@[simp] theorem State.withSensor_holdIn (k : Fin 4) (x : Sensor) :
    (s.withSensor k x).holdIn = s.holdIn := rfl
@[simp] theorem State.withSensor_roster (k : Fin 4) (x : Sensor) :
    (s.withSensor k x).roster = s.roster := rfl
@[simp] theorem State.withSensor_command (k : Fin 4) (x : Sensor) :
    (s.withSensor k x).command = s.command := rfl
@[simp] theorem State.withSensor_works (k : Fin 4) (x : Sensor) :
    (s.withSensor k x).works = { s.works with sensors := s.works.sensors.put k x } := rfl

/-! ### State.withRing -/

@[simp] theorem State.withRing_pending (r : Fin 4) (x : Ring) :
    (s.withRing r x).pending = s.pending := rfl
@[simp] theorem State.withRing_held (r : Fin 4) (x : Ring) :
    (s.withRing r x).held = s.held := rfl
@[simp] theorem State.withRing_startup (r : Fin 4) (x : Ring) :
    (s.withRing r x).startup = s.startup := rfl
@[simp] theorem State.withRing_cfg (r : Fin 4) (x : Ring) :
    (s.withRing r x).cfg = s.cfg := rfl
@[simp] theorem State.withRing_bus (r : Fin 4) (x : Ring) :
    (s.withRing r x).bus = s.bus := rfl
@[simp] theorem State.withRing_axes (r : Fin 4) (x : Ring) :
    (s.withRing r x).axes = s.axes := rfl
@[simp] theorem State.withRing_mirrors (r : Fin 4) (x : Ring) :
    (s.withRing r x).mirrors = s.mirrors := rfl
@[simp] theorem State.withRing_nextSequence (r : Fin 4) (x : Ring) :
    (s.withRing r x).nextSequence = s.nextSequence := rfl
@[simp] theorem State.withRing_rules (r : Fin 4) (x : Ring) :
    (s.withRing r x).rules = s.rules := rfl
@[simp] theorem State.withRing_holdIn (r : Fin 4) (x : Ring) :
    (s.withRing r x).holdIn = s.holdIn := rfl
@[simp] theorem State.withRing_roster (r : Fin 4) (x : Ring) :
    (s.withRing r x).roster = s.roster := rfl
@[simp] theorem State.withRing_command (r : Fin 4) (x : Ring) :
    (s.withRing r x).command = s.command := rfl
@[simp] theorem State.withRing_works (r : Fin 4) (x : Ring) :
    (s.withRing r x).works = { s.works with rings := s.works.rings.put r x } := rfl

/-! ### What is derived from the state -/

@[simp] theorem State.withWorks_valid (w : Works) : (s.withWorks w).valid = s.valid := rfl
@[simp] theorem State.withWorks_receives (w : Works) : (s.withWorks w).receives = s.receives := rfl
@[simp] theorem State.withWorks_axisFault (w : Works) : (s.withWorks w).axisFault = s.axisFault := rfl
@[simp] theorem State.withWorks_causePin (w : Works) : (s.withWorks w).causePin = s.causePin := rfl
@[simp] theorem State.withWorks_ownHold (w : Works) : (s.withWorks w).ownHold = s.ownHold := rfl
@[simp] theorem State.withWorks_peerHold (w : Works) : (s.withWorks w).peerHold = s.peerHold := rfl
@[simp] theorem State.withWorks_essentialPresent (w : Works) : (s.withWorks w).essentialPresent = s.essentialPresent := rfl
@[simp] theorem State.withWorks_run (w : Works) : (s.withWorks w).run = s.run := rfl
@[simp] theorem State.withWorks_faultOut (w : Works) : (s.withWorks w).faultOut = s.faultOut := rfl
@[simp] theorem State.withWorks_lineCondition (w : Works) : (s.withWorks w).lineCondition = s.lineCondition := rfl
@[simp] theorem State.withWorks_env (w : Works) : (s.withWorks w).env = s.env := rfl
@[simp] theorem State.withBus_valid (b : Bus) : (s.withBus b).valid = s.valid := rfl
@[simp] theorem State.withBus_axisFault (b : Bus) : (s.withBus b).axisFault = s.axisFault := rfl
@[simp] theorem State.withBus_causePin (b : Bus) : (s.withBus b).causePin = s.causePin := rfl
@[simp] theorem State.withBus_ownHold (b : Bus) : (s.withBus b).ownHold = s.ownHold := rfl
@[simp] theorem State.withBus_essentialPresent (b : Bus) : (s.withBus b).essentialPresent = s.essentialPresent := rfl
@[simp] theorem State.withAxis_valid (i : Fin 2) (x : LocalAxis) : (s.withAxis i x).valid = s.valid := rfl
@[simp] theorem State.withAxis_receives (i : Fin 2) (x : LocalAxis) : (s.withAxis i x).receives = s.receives := rfl
@[simp] theorem State.withAxis_causePin (i : Fin 2) (x : LocalAxis) : (s.withAxis i x).causePin = s.causePin := rfl
@[simp] theorem State.withAxis_peerHold (i : Fin 2) (x : LocalAxis) : (s.withAxis i x).peerHold = s.peerHold := rfl
@[simp] theorem State.withAxis_essentialPresent (i : Fin 2) (x : LocalAxis) : (s.withAxis i x).essentialPresent = s.essentialPresent := rfl
@[simp] theorem State.withMirror_valid (i : Fin 6) (m : Mirror) : (s.withMirror i m).valid = s.valid := rfl
@[simp] theorem State.withMirror_receives (i : Fin 6) (m : Mirror) : (s.withMirror i m).receives = s.receives := rfl
@[simp] theorem State.withMirror_axisFault (i : Fin 6) (m : Mirror) : (s.withMirror i m).axisFault = s.axisFault := rfl
@[simp] theorem State.withMirror_causePin (i : Fin 6) (m : Mirror) : (s.withMirror i m).causePin = s.causePin := rfl
@[simp] theorem State.withMirror_ownHold (i : Fin 6) (m : Mirror) : (s.withMirror i m).ownHold = s.ownHold := rfl
@[simp] theorem State.withMirror_peerHold (i : Fin 6) (m : Mirror) : (s.withMirror i m).peerHold = s.peerHold := rfl
@[simp] theorem State.withMirror_essentialPresent (i : Fin 6) (m : Mirror) : (s.withMirror i m).essentialPresent = s.essentialPresent := rfl
@[simp] theorem State.withMirror_run (i : Fin 6) (m : Mirror) : (s.withMirror i m).run = s.run := rfl
@[simp] theorem State.withMirror_faultOut (i : Fin 6) (m : Mirror) : (s.withMirror i m).faultOut = s.faultOut := rfl
@[simp] theorem State.withMirror_lineCondition (i : Fin 6) (m : Mirror) : (s.withMirror i m).lineCondition = s.lineCondition := rfl
@[simp] theorem State.withEntry_valid (n : Fin 32) (e : RosterEntry) : (s.withEntry n e).valid = s.valid := rfl
@[simp] theorem State.withEntry_receives (n : Fin 32) (e : RosterEntry) : (s.withEntry n e).receives = s.receives := rfl
@[simp] theorem State.withEntry_axisFault (n : Fin 32) (e : RosterEntry) : (s.withEntry n e).axisFault = s.axisFault := rfl
@[simp] theorem State.withEntry_causePin (n : Fin 32) (e : RosterEntry) : (s.withEntry n e).causePin = s.causePin := rfl
@[simp] theorem State.withEntry_ownHold (n : Fin 32) (e : RosterEntry) : (s.withEntry n e).ownHold = s.ownHold := rfl
@[simp] theorem State.withEntry_faultOut (n : Fin 32) (e : RosterEntry) : (s.withEntry n e).faultOut = s.faultOut := rfl
@[simp] theorem State.withCommand_valid (c : CommandUnit) : (s.withCommand c).valid = s.valid := rfl
@[simp] theorem State.withCommand_receives (c : CommandUnit) : (s.withCommand c).receives = s.receives := rfl
@[simp] theorem State.withCommand_axisFault (c : CommandUnit) : (s.withCommand c).axisFault = s.axisFault := rfl
@[simp] theorem State.withCommand_causePin (c : CommandUnit) : (s.withCommand c).causePin = s.causePin := rfl
@[simp] theorem State.withCommand_ownHold (c : CommandUnit) : (s.withCommand c).ownHold = s.ownHold := rfl
@[simp] theorem State.withCommand_peerHold (c : CommandUnit) : (s.withCommand c).peerHold = s.peerHold := rfl
@[simp] theorem State.withCommand_essentialPresent (c : CommandUnit) : (s.withCommand c).essentialPresent = s.essentialPresent := rfl
@[simp] theorem State.withCommand_run (c : CommandUnit) : (s.withCommand c).run = s.run := rfl
@[simp] theorem State.withCommand_faultOut (c : CommandUnit) : (s.withCommand c).faultOut = s.faultOut := rfl
@[simp] theorem State.withCommand_lineCondition (c : CommandUnit) : (s.withCommand c).lineCondition = s.lineCondition := rfl
@[simp] theorem State.withCommand_env (c : CommandUnit) : (s.withCommand c).env = s.env := rfl
@[simp] theorem State.withHoldIn_valid (x : HoldIn) : (s.withHoldIn x).valid = s.valid := rfl
@[simp] theorem State.withHoldIn_receives (x : HoldIn) : (s.withHoldIn x).receives = s.receives := rfl
@[simp] theorem State.withHoldIn_axisFault (x : HoldIn) : (s.withHoldIn x).axisFault = s.axisFault := rfl
@[simp] theorem State.withHoldIn_peerHold (x : HoldIn) : (s.withHoldIn x).peerHold = s.peerHold := rfl
@[simp] theorem State.withHoldIn_essentialPresent (x : HoldIn) : (s.withHoldIn x).essentialPresent = s.essentialPresent := rfl
@[simp] theorem State.withHoldIn_faultOut (x : HoldIn) : (s.withHoldIn x).faultOut = s.faultOut := rfl
@[simp] theorem State.withRule_valid (k : Fin 8) (r : Rule) : (s.withRule k r).valid = s.valid := rfl
@[simp] theorem State.withRule_receives (k : Fin 8) (r : Rule) : (s.withRule k r).receives = s.receives := rfl
@[simp] theorem State.withRule_axisFault (k : Fin 8) (r : Rule) : (s.withRule k r).axisFault = s.axisFault := rfl
@[simp] theorem State.withRule_causePin (k : Fin 8) (r : Rule) : (s.withRule k r).causePin = s.causePin := rfl
@[simp] theorem State.withRule_ownHold (k : Fin 8) (r : Rule) : (s.withRule k r).ownHold = s.ownHold := rfl
@[simp] theorem State.withRule_peerHold (k : Fin 8) (r : Rule) : (s.withRule k r).peerHold = s.peerHold := rfl
@[simp] theorem State.withRule_essentialPresent (k : Fin 8) (r : Rule) : (s.withRule k r).essentialPresent = s.essentialPresent := rfl
@[simp] theorem State.withRule_run (k : Fin 8) (r : Rule) : (s.withRule k r).run = s.run := rfl
@[simp] theorem State.withRule_faultOut (k : Fin 8) (r : Rule) : (s.withRule k r).faultOut = s.faultOut := rfl
@[simp] theorem State.withRule_lineCondition (k : Fin 8) (r : Rule) : (s.withRule k r).lineCondition = s.lineCondition := rfl
@[simp] theorem State.withSensor_valid (k : Fin 4) (x : Sensor) : (s.withSensor k x).valid = s.valid := rfl
@[simp] theorem State.withSensor_receives (k : Fin 4) (x : Sensor) : (s.withSensor k x).receives = s.receives := rfl
@[simp] theorem State.withSensor_axisFault (k : Fin 4) (x : Sensor) : (s.withSensor k x).axisFault = s.axisFault := rfl
@[simp] theorem State.withSensor_causePin (k : Fin 4) (x : Sensor) : (s.withSensor k x).causePin = s.causePin := rfl
@[simp] theorem State.withSensor_ownHold (k : Fin 4) (x : Sensor) : (s.withSensor k x).ownHold = s.ownHold := rfl
@[simp] theorem State.withSensor_peerHold (k : Fin 4) (x : Sensor) : (s.withSensor k x).peerHold = s.peerHold := rfl
@[simp] theorem State.withSensor_essentialPresent (k : Fin 4) (x : Sensor) : (s.withSensor k x).essentialPresent = s.essentialPresent := rfl
@[simp] theorem State.withSensor_run (k : Fin 4) (x : Sensor) : (s.withSensor k x).run = s.run := rfl
@[simp] theorem State.withSensor_faultOut (k : Fin 4) (x : Sensor) : (s.withSensor k x).faultOut = s.faultOut := rfl
@[simp] theorem State.withSensor_lineCondition (k : Fin 4) (x : Sensor) : (s.withSensor k x).lineCondition = s.lineCondition := rfl
@[simp] theorem State.withSensor_env (k : Fin 4) (x : Sensor) : (s.withSensor k x).env = s.env := rfl
@[simp] theorem State.withRing_valid (r : Fin 4) (x : Ring) : (s.withRing r x).valid = s.valid := rfl
@[simp] theorem State.withRing_receives (r : Fin 4) (x : Ring) : (s.withRing r x).receives = s.receives := rfl
@[simp] theorem State.withRing_axisFault (r : Fin 4) (x : Ring) : (s.withRing r x).axisFault = s.axisFault := rfl
@[simp] theorem State.withRing_causePin (r : Fin 4) (x : Ring) : (s.withRing r x).causePin = s.causePin := rfl
@[simp] theorem State.withRing_ownHold (r : Fin 4) (x : Ring) : (s.withRing r x).ownHold = s.ownHold := rfl
@[simp] theorem State.withRing_peerHold (r : Fin 4) (x : Ring) : (s.withRing r x).peerHold = s.peerHold := rfl
@[simp] theorem State.withRing_essentialPresent (r : Fin 4) (x : Ring) : (s.withRing r x).essentialPresent = s.essentialPresent := rfl
@[simp] theorem State.withRing_run (r : Fin 4) (x : Ring) : (s.withRing r x).run = s.run := rfl
@[simp] theorem State.withRing_faultOut (r : Fin 4) (x : Ring) : (s.withRing r x).faultOut = s.faultOut := rfl
@[simp] theorem State.withRing_lineCondition (r : Fin 4) (x : Ring) : (s.withRing r x).lineCondition = s.lineCondition := rfl
@[simp] theorem State.withRing_env (r : Fin 4) (x : Ring) : (s.withRing r x).env = s.env := rfl
@[simp] theorem State.env_cfg : s.env.cfg = s.cfg := rfl
@[simp] theorem State.env_number : s.env.number = s.bus.number := rfl
@[simp] theorem State.env_axes : s.env.axes = s.axes := rfl
@[simp] theorem State.env_mirrors : s.env.mirrors = s.mirrors := rfl
@[simp] theorem State.env_rules : s.env.rules = s.rules := rfl
@[simp] theorem State.env_run : s.env.run = s.run := rfl

/-! ### The consumer blocks -/

@[simp] theorem Works.raise_queues (env : Env) (k : NoticeKind) :
    (w.raise env k).queues = w.queues := rfl
@[simp] theorem Works.raise_nextStamp (env : Env) (k : NoticeKind) :
    (w.raise env k).nextStamp = w.nextStamp := rfl
@[simp] theorem Works.raise_sensors (env : Env) (k : NoticeKind) :
    (w.raise env k).sensors = w.sensors := rfl
@[simp] theorem Works.raise_rings (env : Env) (k : NoticeKind) :
    (w.raise env k).rings = w.rings := rfl
@[simp] theorem Works.raise_windows (env : Env) (k : NoticeKind) :
    (w.raise env k).windows = w.windows := rfl
@[simp] theorem Works.raise_outputs (env : Env) (k : NoticeKind) :
    (w.raise env k).outputs = w.outputs := rfl
@[simp] theorem Works.raise_txQueue (env : Env) (k : NoticeKind) :
    (w.raise env k).txQueue = w.txQueue := rfl
@[simp] theorem Works.raise_notices (env : Env) (k : NoticeKind) :
    (w.raise env k).notices = w.notices.raise env.cfg.noticeMask k := rfl
@[simp] theorem Works.raise_choice (env : Env) (k : NoticeKind) :
    (w.raise env k).choice = w.choice := rfl

@[simp] theorem Works.count_queues (k : Fin 19) :
    (w.count k).queues = w.queues := rfl
@[simp] theorem Works.count_nextStamp (k : Fin 19) :
    (w.count k).nextStamp = w.nextStamp := rfl
@[simp] theorem Works.count_sensors (k : Fin 19) :
    (w.count k).sensors = w.sensors := rfl
@[simp] theorem Works.count_rings (k : Fin 19) :
    (w.count k).rings = w.rings := rfl
@[simp] theorem Works.count_windows (k : Fin 19) :
    (w.count k).windows = w.windows := rfl
@[simp] theorem Works.count_outputs (k : Fin 19) :
    (w.count k).outputs = w.outputs := rfl
@[simp] theorem Works.count_txQueue (k : Fin 19) :
    (w.count k).txQueue = w.txQueue := rfl
@[simp] theorem Works.count_notices (k : Fin 19) :
    (w.count k).notices = w.notices.count k := rfl
@[simp] theorem Works.count_choice (k : Fin 19) :
    (w.count k).choice = w.choice := rfl

@[simp] theorem Works.queueResponse_queues (r : Response) :
    (w.queueResponse r).queues = w.queues := rfl
@[simp] theorem Works.queueResponse_nextStamp (r : Response) :
    (w.queueResponse r).nextStamp = w.nextStamp := rfl
@[simp] theorem Works.queueResponse_sensors (r : Response) :
    (w.queueResponse r).sensors = w.sensors := rfl
@[simp] theorem Works.queueResponse_rings (r : Response) :
    (w.queueResponse r).rings = w.rings := rfl
@[simp] theorem Works.queueResponse_windows (r : Response) :
    (w.queueResponse r).windows = w.windows := rfl
@[simp] theorem Works.queueResponse_outputs (r : Response) :
    (w.queueResponse r).outputs = w.outputs := rfl
@[simp] theorem Works.queueResponse_txQueue (r : Response) :
    (w.queueResponse r).txQueue = w.txQueue ++ [.rsp r] := rfl
@[simp] theorem Works.queueResponse_notices (r : Response) :
    (w.queueResponse r).notices = w.notices := rfl
@[simp] theorem Works.queueResponse_choice (r : Response) :
    (w.queueResponse r).choice = w.choice := rfl

@[simp] theorem Works.releaseCrossed_queues (env : Env) (h : Handle) (m : Move) :
    (w.releaseCrossed env h m).queues = w.queues := rfl
@[simp] theorem Works.releaseCrossed_nextStamp (env : Env) (h : Handle) (m : Move) :
    (w.releaseCrossed env h m).nextStamp = w.nextStamp := rfl
@[simp] theorem Works.releaseCrossed_sensors (env : Env) (h : Handle) (m : Move) :
    (w.releaseCrossed env h m).sensors = w.sensors := rfl
@[simp] theorem Works.releaseCrossed_rings (env : Env) (h : Handle) (m : Move) :
    (w.releaseCrossed env h m).rings = w.rings := rfl
@[simp] theorem Works.releaseCrossed_windows (env : Env) (h : Handle) (m : Move) :
    (w.releaseCrossed env h m).windows = w.windows := rfl
@[simp] theorem Works.releaseCrossed_outputs (env : Env) (h : Handle) (m : Move) :
    (w.releaseCrossed env h m).outputs = w.outputs.change fun _ o => o.onMove env h m := rfl
@[simp] theorem Works.releaseCrossed_txQueue (env : Env) (h : Handle) (m : Move) :
    (w.releaseCrossed env h m).txQueue = w.txQueue := rfl
@[simp] theorem Works.releaseCrossed_notices (env : Env) (h : Handle) (m : Move) :
    (w.releaseCrossed env h m).notices = w.notices := rfl
@[simp] theorem Works.releaseCrossed_choice (env : Env) (h : Handle) (m : Move) :
    (w.releaseCrossed env h m).choice = w.choice := rfl

@[simp] theorem Works.releaseLost_queues (h : Handle) :
    (w.releaseLost h).queues = w.queues := rfl
@[simp] theorem Works.releaseLost_nextStamp (h : Handle) :
    (w.releaseLost h).nextStamp = w.nextStamp := rfl
@[simp] theorem Works.releaseLost_sensors (h : Handle) :
    (w.releaseLost h).sensors = w.sensors := rfl
@[simp] theorem Works.releaseLost_rings (h : Handle) :
    (w.releaseLost h).rings = w.rings := rfl
@[simp] theorem Works.releaseLost_windows (h : Handle) :
    (w.releaseLost h).windows = w.windows := rfl
@[simp] theorem Works.releaseLost_outputs (h : Handle) :
    (w.releaseLost h).outputs = w.outputs.change fun _ o => o.onLoss h := rfl
@[simp] theorem Works.releaseLost_txQueue (h : Handle) :
    (w.releaseLost h).txQueue = w.txQueue := rfl
@[simp] theorem Works.releaseLost_notices (h : Handle) :
    (w.releaseLost h).notices = w.notices := rfl
@[simp] theorem Works.releaseLost_choice (h : Handle) :
    (w.releaseLost h).choice = w.choice := rfl

@[simp] theorem Works.handFlag_queues (env : Env) (k : Fin 8) (flag : Bool) :
    (w.handFlag env k flag).queues = w.queues := rfl
@[simp] theorem Works.handFlag_nextStamp (env : Env) (k : Fin 8) (flag : Bool) :
    (w.handFlag env k flag).nextStamp = w.nextStamp := rfl
@[simp] theorem Works.handFlag_sensors (env : Env) (k : Fin 8) (flag : Bool) :
    (w.handFlag env k flag).sensors = w.sensors := rfl
@[simp] theorem Works.handFlag_rings (env : Env) (k : Fin 8) (flag : Bool) :
    (w.handFlag env k flag).rings = w.rings := rfl
@[simp] theorem Works.handFlag_windows (env : Env) (k : Fin 8) (flag : Bool) :
    (w.handFlag env k flag).windows = w.windows := rfl
@[simp] theorem Works.handFlag_outputs (env : Env) (k : Fin 8) (flag : Bool) :
    (w.handFlag env k flag).outputs = w.outputs.change fun i o => o.onFlag (env.cfg.outputs.get i) k flag := rfl
@[simp] theorem Works.handFlag_txQueue (env : Env) (k : Fin 8) (flag : Bool) :
    (w.handFlag env k flag).txQueue = w.txQueue := rfl
@[simp] theorem Works.handFlag_notices (env : Env) (k : Fin 8) (flag : Bool) :
    (w.handFlag env k flag).notices = w.notices := rfl
@[simp] theorem Works.handFlag_choice (env : Env) (k : Fin 8) (flag : Bool) :
    (w.handFlag env k flag).choice = w.choice := rfl

@[simp] theorem Works.enterCondition_queues (env : Env) (c : Condition) :
    (w.enterCondition env c).queues = w.queues := rfl
@[simp] theorem Works.enterCondition_nextStamp (env : Env) (c : Condition) :
    (w.enterCondition env c).nextStamp = w.nextStamp := rfl
@[simp] theorem Works.enterCondition_sensors (env : Env) (c : Condition) :
    (w.enterCondition env c).sensors = w.sensors := rfl
@[simp] theorem Works.enterCondition_rings (env : Env) (c : Condition) :
    (w.enterCondition env c).rings = w.rings := rfl
@[simp] theorem Works.enterCondition_windows (env : Env) (c : Condition) :
    (w.enterCondition env c).windows = w.windows := rfl
@[simp] theorem Works.enterCondition_outputs (env : Env) (c : Condition) :
    (w.enterCondition env c).outputs = w.outputs.change fun i o => o.enter (env.cfg.outputs.get i) c := rfl
@[simp] theorem Works.enterCondition_txQueue (env : Env) (c : Condition) :
    (w.enterCondition env c).txQueue = w.txQueue := rfl
@[simp] theorem Works.enterCondition_notices (env : Env) (c : Condition) :
    (w.enterCondition env c).notices = w.notices := rfl
@[simp] theorem Works.enterCondition_choice (env : Env) (c : Condition) :
    (w.enterCondition env c).choice = w.choice := rfl

@[simp] theorem Works.emptyQueue_queues : w.emptyQueue.queues = Bank.fill [] := rfl
@[simp] theorem Works.emptyQueue_nextStamp : w.emptyQueue.nextStamp = 0 := rfl
@[simp] theorem Works.emptyQueue_sensors : w.emptyQueue.sensors = w.sensors := rfl
@[simp] theorem Works.emptyQueue_rings : w.emptyQueue.rings = w.rings := rfl
@[simp] theorem Works.emptyQueue_windows : w.emptyQueue.windows = w.windows := rfl
@[simp] theorem Works.emptyQueue_outputs : w.emptyQueue.outputs = w.outputs := rfl
@[simp] theorem Works.emptyQueue_txQueue : w.emptyQueue.txQueue = w.txQueue := rfl
@[simp] theorem Works.emptyQueue_notices : w.emptyQueue.notices = w.notices := rfl
@[simp] theorem Works.emptyQueue_choice : w.emptyQueue.choice = w.choice := rfl

end Sys2Proof.Machine
end

