-- ==== Sys2Proof/Laws/Commands.lean ====
section
/-! SUPPORT. How a console command becomes an answer: what the row's meaning comes to once R171 and R173 have let it through. -/

namespace Sys2Proof.Machine

variable (s : State) (requester : Station) (tid : Byte) (c : Cmd) (a : Answer)

/-- An execution leaves its answer and its record, and a result that counts leaves COMMANDS_EXECUTED one higher. -/
theorem Answer.deliver_eq :
    a.deliver requester tid c =
      if a.result.counted then a.state.answered (responseTo requester tid c a)
      else a.state.responded (responseTo requester tid c a) := by
  simp only [Answer.deliver, Works.countResult]
  split <;> rfl

/-- The requester's record does not hold a fresh transaction id. -/
theorem State.Reaches.not_cached {s : State} {requester : Station} {tid : Byte} (h : s.Reaches requester tid) :
    s.cached requester tid = none := by
  unfold State.cached
  split
  · rfl
  · rename_i x hx
    rw [if_neg (h.fresh x hx)]

/-- A command that reaches step 3 of R171 is executed and delivered. -/
theorem State.Reaches.takeCommand_eq {s : State} {requester : Station} {tid : Byte} (h : s.Reaches requester tid) :
    s.takeCommand requester tid c = (s.execute requester c).deliver requester tid c := by
  have hp : ¬4 ≤ s.works.responsesHeld := Nat.not_le.mpr h.place
  simp [State.takeCommand, h.rotating, hp, h.not_cached]

/-- With a valid configuration and a permitted requester a command is judged by its own checks. -/
theorem State.Executes.execute_eq {s : State} {requester : Station} {tid : Byte} (h : s.Executes requester tid) :
    s.execute requester c = s.perform requester c := by
  cases c <;> simp [State.execute, State.permits, State.valid, h.valid, h.permitted, Cmd.isUnknown, State.perform]

/-- The whole way of a command with a valid configuration and a permitted requester. -/
theorem State.Executes.takeCommand_eq {s : State} {requester : Station} {tid : Byte} (h : s.Executes requester tid) :
    s.takeCommand requester tid c = (s.perform requester c).deliver requester tid c := by
  rw [h.toReaches.takeCommand_eq, h.execute_eq]

/-- A byte names an index exactly when it is one. -/
theorem indexOf_some {n : Nat} {b : Byte} {i : Fin n} (h : i.val = b.toNat) : indexOf n b = some i := by
  simp [indexOf, ← h]

theorem indexOf_none {n : Nat} {b : Byte} (h : n ≤ b.toNat) : indexOf n b = none := by
  simp [indexOf, h]

/-- A byte names a handle exactly when it is 0 to 7. -/
theorem handleOf_some {b : Byte} {h : Handle} (e : h.val = b.toNat) : handleOf b = some h := by
  simp [handleOf, ← e]

theorem handleOf_none {b : Byte} (e : 8 ≤ b.toNat) : handleOf b = none := by
  simp [handleOf, e]

end Sys2Proof.Machine
end

