-- ==== Sys2Proof/Laws/Orders.lean ====
section
/-! SUPPORT. Banks by their parts, and what a free value can make of an order that the spec leaves open. -/

namespace Sys2Proof.Machine

theorem permute_zero_items {α : Type} (n : Nat) : permute n ([] : List α) = [] := rfl

/-- Picking as many items as there are picks each of them once. -/
theorem pickOrder_perm {α : Type} (k n : Nat) (l : List α) (h : l.length = k) : (pickOrder k n l).Perm l := by
  induction k generalizing n l with
  | zero => simp [pickOrder, List.length_eq_zero_iff.mp h]
  | succ k ih =>
    have hl : n % l.length < l.length := Nat.mod_lt _ (by omega)
    simp only [pickOrder, List.getElem?_eq_getElem hl]
    have := ih (n / l.length) (l.eraseIdx (n % l.length)) (by rw [List.length_eraseIdx_of_lt hl]; omega)
    exact (this.cons _).trans (List.getElem_cons_eraseIdx_perm hl)

/-- A free value reorders, and neither drops nor repeats. -/
theorem permute_perm {α : Type} (n : Nat) (l : List α) : (permute n l).Perm l := pickOrder_perm _ _ _ rfl

/-- What is arranged is what was given. -/
theorem Works.arrange_perm {α : Type} (w : Works) (l : List α) : (w.arrange l).1.Perm l := by
  unfold Works.arrange
  split
  · exact List.Perm.refl _
  · exact permute_perm _ _

/-- An arrangement takes at most one free value, and changes nothing else. -/
theorem Works.arrange_works {α : Type} (w : Works) (l : List α) :
    (w.arrange l).2 = { w with choice := (w.arrange l).2.choice } := by
  unfold Works.arrange
  split <;> rfl

/-- One thing, or none, has one order. -/
theorem Works.arrange_short {α : Type} (w : Works) (l : List α) (h : l.length ≤ 1) : w.arrange l = (l, w) := by
  simp [Works.arrange, h]

/-- Putting back the part that is there changes nothing. -/
theorem Bank.get_put_eq {α : Type} {n : Nat} (v : Bank α n) (i : Fin n) : Bank.put v i (Bank.get v i) = v := by
  apply Bank.ext_get
  intro j
  rw [Bank.get_put]
  split
  · subst_vars; rfl
  · rfl

/-- Of two puts at one place the later stands. -/
theorem Bank.put_put {α : Type} {n : Nat} (v : Bank α n) (i : Fin n) (x y : α) :
    Bank.put (Bank.put v i x) i y = Bank.put v i y := by
  apply Bank.ext_get
  intro j
  simp only [Bank.get_put]
  split <;> rfl

end Sys2Proof.Machine
end

