-- ==== Sys2Proof/Laws/Frames.lean ====
section
/-! SUPPORT. Which parts of the consumer blocks each shared operation can change: every operation equals its argument with the
parts it owns replaced. -/

namespace Sys2Proof.Machine

variable (w : Works) (env : Env) (h : Handle) (m : Move)

/-- What every step of a fold keeps to, the fold keeps to. -/
theorem foldl_frame {α β : Type} (f : β → α → β) (R : β → β → Prop) (refl : ∀ b, R b b)
    (trans : ∀ a b c, R a b → R b c → R a c) (step : ∀ b x, R b (f b x)) (l : List α) (b : β) : R b (l.foldl f b) := by
  induction l generalizing b with
  | nil => exact refl b
  | cons x xs ih => exact trans _ _ _ (step b x) (ih _)

/-- `w'` is `w` but for the notices. -/
def Works.NoticesOnly (w w' : Works) : Prop := w' = { w with notices := w'.notices }

/-- `w'` is `w` but for the notices and the transmit queue. -/
def Works.SendingOnly (w w' : Works) : Prop := w' = { w with notices := w'.notices, txQueue := w'.txQueue }

/-- `w'` is `w` but for the output lines. -/
def Works.OutputsOnly (w w' : Works) : Prop := w' = { w with outputs := w'.outputs }

/-- `w'` is `w` but for the windows and the output lines. -/
def Works.WindowsOnly (w w' : Works) : Prop := w' = { w with windows := w'.windows, outputs := w'.outputs }

/-- `w'` is `w` but for the cam rings. -/
def Works.RingsOnly (w w' : Works) : Prop := w' = { w with rings := w'.rings }

/-- `w'` is `w` but for the queue of handle `h` and the notices. -/
def Works.QueueOnly (h : Handle) (w w' : Works) : Prop :=
  w' = { w with queues := w.queues.put h (w'.queues.get h), notices := w'.notices }

theorem Works.SendingOnly.refl (a : Works) : SendingOnly a a := rfl

theorem Works.SendingOnly.trans (a b c : Works) (x : SendingOnly a b) (y : SendingOnly b c) : SendingOnly a c := by
  unfold SendingOnly at *; rw [y, x]

theorem Works.OutputsOnly.refl (a : Works) : OutputsOnly a a := rfl

theorem Works.OutputsOnly.trans (a b c : Works) (x : OutputsOnly a b) (y : OutputsOnly b c) : OutputsOnly a c := by
  unfold OutputsOnly at *; rw [y, x]

theorem Works.WindowsOnly.refl (a : Works) : WindowsOnly a a := rfl

theorem Works.WindowsOnly.trans (a b c : Works) (x : WindowsOnly a b) (y : WindowsOnly b c) : WindowsOnly a c := by
  unfold WindowsOnly at *; rw [y, x]

theorem Works.RingsOnly.refl (a : Works) : RingsOnly a a := rfl

theorem Works.RingsOnly.trans (a b c : Works) (x : RingsOnly a b) (y : RingsOnly b c) : RingsOnly a c := by
  unfold RingsOnly at *; rw [y, x]

/-! ### The notice unit -/

theorem Works.raiseTimes_frame (k : NoticeKind) (n : Nat) : w.NoticesOnly (w.raiseTimes env k n) := by
  induction n generalizing w with
  | zero => rfl
  | succ n ih => exact ih (w.raise env k)

/-! ### The transmit queue -/

theorem Works.offerTag_frame (t : Tag) : w.SendingOnly (w.offerTag env t) := by
  unfold Works.offerTag SendingOnly
  split <;> rfl

theorem Works.forwardTag_frame (e : Entry) : w.SendingOnly (w.forwardTag env h e) := by
  unfold Works.forwardTag
  split
  · split
    · exact w.offerTag_frame env _
    · exact .refl w
  · exact .refl w

theorem Works.leave_frame (e : Entry) : w.SendingOnly (w.leave env h e) := by
  unfold Works.leave
  split
  · exact w.forwardTag_frame env h e
  · have a : w.SendingOnly (w.raise env .suppressed) := rfl
    exact .trans _ _ _ a (Works.forwardTag_frame _ env h e)

/-! ### The output lines -/

theorem Works.act_frame (src : Option Handle) (a : Action) : w.OutputsOnly (w.act env src a) := by
  simp only [Works.act, OutputsOnly]
  split <;> rfl

theorem Works.actAll_frame (src : Option Handle) (l : List Action) : w.OutputsOnly (w.actAll env src l) :=
  foldl_frame _ OutputsOnly .refl .trans (fun b x => b.act_frame env src x) l w

theorem Works.expire_frame (q : Fin 8) : w.OutputsOnly (w.expire q) := by
  simp only [Works.expire, OutputsOnly]
  split <;> rfl

/-- The lines take their condition, and nothing else of the station changes. -/
theorem State.refreshLines_frame (s : State) :
    s.refreshLines = { s with works := { s.works with outputs := s.refreshLines.works.outputs } } := rfl

/-! ### The trigger queue -/

theorem Works.lateFire_frame (e : Entry) :
    w.lateFire env h e = { w with
      outputs := (w.lateFire env h e).outputs, notices := (w.lateFire env h e).notices
      txQueue := (w.lateFire env h e).txQueue } := by
  have a := Works.actAll_frame (w.raise env .lateFire) env (some h) (e.firedAction env).toList
  have b := Works.leave_frame
    ((w.raise env .lateFire).actAll env (some h) (e.firedAction env).toList) env h e
  unfold OutputsOnly at a
  unfold SendingOnly at b
  unfold Works.lateFire
  rw [b, a]
  rfl

theorem Works.removeMissed_frame (gone : Entry → Bool) : QueueOnly h w (w.removeMissed env h gone) := by
  have a := Works.raiseTimes_frame
    { w with queues := w.queues.put h ((w.queues.get h).filter fun e => !gone e) } env .missed
    ((w.queues.get h).countP gone)
  unfold NoticesOnly at a
  unfold Works.removeMissed QueueOnly
  rw [a]
  simp

theorem Works.queueEpoch_frame : QueueOnly h w (w.queueEpoch env h) := by
  have a := Works.raiseTimes_frame { w with queues := w.queues.put h [] } env .epochDiscard
    (w.queues.get h).length
  unfold NoticesOnly at a
  unfold Works.queueEpoch QueueOnly
  rw [a]
  simp

/-- What a position event is to the trigger queue: the handle's entries, the notices and the transmit queue. -/
theorem Works.queueMove_frame :
    (w.queueMove env h m).2 = { w with
      queues := w.queues.put h ((w.queueMove env h m).2.queues.get h)
      notices := (w.queueMove env h m).2.notices, txQueue := (w.queueMove env h m).2.txQueue } := by
  unfold Works.queueMove
  split
  · generalize hk : (w.queues.get h).filter (fun e => !crosses (env.cfg.geometry h) m e.due) = kept
    have a := foldl_frame (fun w e => Works.leave w env h e) SendingOnly .refl .trans
      (fun b x => b.leave_frame env h x)
      ((w.queues.get h).filter fun e => crosses (env.cfg.geometry h) m e.due)
      { w with queues := w.queues.put h kept }
    unfold SendingOnly at a
    dsimp only
    rw [hk, a]
    simp
  · have a := w.removeMissed_frame env h (Entry.overrun m)
    unfold QueueOnly at a
    dsimp only
    rw [a]
    simp

/-! ### Cam rings and windows -/

theorem Works.ringMove_frame (r : Fin 4) : w.RingsOnly (w.ringMove env h m r) := by
  unfold Works.ringMove RingsOnly
  split <;> rfl

theorem Works.ringsMove_frame : w.RingsOnly (w.ringsMove env h m) :=
  foldl_frame _ RingsOnly .refl .trans (fun b r => b.ringMove_frame env h m r) _ w

theorem Works.recompute_frame (k : Fin 8) : w.WindowsOnly (w.recompute env k) := by
  simp only [Works.recompute, WindowsOnly]
  split <;> rfl

theorem Works.recomputeOn_frame : w.WindowsOnly (w.recomputeOn env h) :=
  foldl_frame _ WindowsOnly .refl .trans (fun b k => by split; exacts [b.recompute_frame env k, .refl b]) _ w

theorem Works.recomputeAll_frame : w.WindowsOnly (w.recomputeAll env) :=
  foldl_frame _ WindowsOnly .refl .trans (fun b k => b.recompute_frame env k) _ w

/-! ### The events -/

/-- A loss of an axis touches the windows and the lines alone. -/
theorem Works.stopsBeingActive_frame : w.WindowsOnly (w.stopsBeingActive env h) :=
  have a : w.WindowsOnly (w.releaseLost h) := rfl
  .trans _ _ _ a (Works.recomputeOn_frame _ env h)

/-- Every event reaches the station through its consumer blocks alone. -/
theorem State.positionEvent_frame (s : State) :
    s.positionEvent h m = { s with works := s.works.positionEvent s.env h m } := rfl

theorem State.silentPassage_frame (s : State) :
    s.silentPassage h m = { s with works := s.works.silentPassage s.env h m } := rfl

theorem State.epochChange_frame (s : State) : s.epochChange h = { s with works := s.works.epochChange s.env h } := rfl

theorem State.becomesActive_frame (s : State) : s.becomesActive h = { s with works := s.works.becomesActive s.env h } := rfl

theorem State.stopsBeingActive_frame (s : State) :
    s.stopsBeingActive h = { s with works := s.works.stopsBeingActive s.env h } := rfl

/-- A stale mirror: its own entry and the consumer blocks. -/
theorem State.staleMirror_frame (s : State) (i : Fin 6) :
    s.staleMirror i = { s with mirrors := (s.staleMirror i).mirrors, works := (s.staleMirror i).works } := by
  simp only [State.staleMirror]
  split <;> rfl

theorem State.stalePublished_frame (s : State) (n : Station) (keep : List (Fin 6)) :
    s.stalePublished n keep =
      { s with mirrors := (s.stalePublished n keep).mirrors, works := (s.stalePublished n keep).works } :=
  foldl_frame _ (fun a b : State => b = { a with mirrors := b.mirrors, works := b.works }) (fun _ => rfl)
    (fun a b c x y => by rw [y, x])
    (fun b i => by
      split
      · exact b.staleMirror_frame i
      · rfl) _ s

/-- `t` is `s` but for the roster, the mirrors and the consumer blocks. -/
def State.RosterOnly (s t : State) : Prop := t = { s with roster := t.roster, mirrors := t.mirrors, works := t.works }

theorem State.RosterOnly.refl (s : State) : RosterOnly s s := rfl

theorem State.RosterOnly.trans (a b c : State) (x : RosterOnly a b) (y : RosterOnly b c) : RosterOnly a c := by
  unfold RosterOnly at *; rw [y, x]

theorem State.withWorks_rosterOnly (s : State) (w : Works) : s.RosterOnly (s.withWorks w) := rfl

theorem State.withEntry_rosterOnly (s : State) (n : Fin 32) (e : RosterEntry) : s.RosterOnly (s.withEntry n e) := rfl

theorem State.stalePublished_rosterOnly (s : State) (n : Station) (keep : List (Fin 6)) :
    s.RosterOnly (s.stalePublished n keep) := by
  unfold RosterOnly
  rw [s.stalePublished_frame n keep]

/-- A miss touches the roster, the mirrors and the consumer blocks alone. -/
theorem State.miss_frame (s : State) (j : Station) : s.RosterOnly (s.miss j) := by
  unfold State.miss
  dsimp only
  split
  · split
    · exact .trans _ _ _ (s.withEntry_rosterOnly _ _) (State.stalePublished_rosterOnly _ _ _)
    · exact .trans _ _ _ (.trans _ _ _ (.trans _ _ _ (s.withEntry_rosterOnly _ _) (State.withWorks_rosterOnly _ _))
        (State.stalePublished_rosterOnly _ _ _)) (State.withWorks_rosterOnly _ _)
  · exact .refl s

/-- So does the count of the misses that a pair reveals. -/
theorem State.countMisses_frame (s : State) (a : Option Station) (k : Station) : s.RosterOnly (s.countMisses a k) := by
  unfold State.countMisses
  split
  · exact .refl s
  · exact foldl_frame _ RosterOnly .refl .trans
      (fun b d => by
        dsimp only
        split
        · exact b.miss_frame _
        · exact .refl b) _ s

/-- A report: the mirrors and the consumer blocks. -/
theorem State.applyReport_frame (s : State) (i : Fin 6) (r : AxisReport) :
    s.applyReport i r =
      { s with mirrors := (s.applyReport i r).mirrors, works := (s.applyReport i r).works } := by
  simp only [State.applyReport]
  repeat' split
  all_goals rfl

end Sys2Proof.Machine
end

