-- ==== Sys2Proof/Laws/Events.lean ====
section
/-! SUPPORT. What the shared operations of an event do, in the terms of the statements: raisings, releases, windows; and the bits
of a sequence of bytes. -/

namespace Sys2Proof.Machine

variable (w : Works) (env : Env) (h : Handle) (m : Move)

/-- Raisings one after another change the notices alone. -/
theorem Works.raiseTimes_eq (k : NoticeKind) (n : Nat) :
    w.raiseTimes env k n = { w with notices := w.notices.raised env.cfg.noticeMask k n } := by
  induction n generalizing w with
  | zero => rfl
  | succ n ih => simp only [raiseTimes, ih]; rfl

/-- Every DISTANCE pulse on the handle is released. -/
theorem Works.releaseLost_eq : w.releaseLost h = { w with outputs := releasedOn h (fun _ => true) w.outputs } := by
  unfold Works.releaseLost
  congr 1
  apply Bank.ext_get
  intro q
  cases e : (w.outputs.get q).pulse <;> simp [releasedOn, Output.onLoss, Output.endPulse, e]

/-- The DISTANCE pulses that a forward move crosses the release position of are released. -/
theorem Works.releaseCrossed_eq :
    w.releaseCrossed env h m =
      { w with outputs := releasedOn h (fun p => decide (m.dir = .fwd) && crosses (env.cfg.geometry h) m p) w.outputs } := by
  unfold Works.releaseCrossed
  congr 1
  apply Bank.ext_get
  intro q
  cases e : (w.outputs.get q).pulse <;> simp [releasedOn, Output.onMove, Output.endPulse, e]

/-- The windows after one of them has recomputed. -/
theorem Works.recompute_windows (k j : Fin 8) :
    (w.recompute env k).windows.get j =
      if k = j then { w.windows.get k with flag := w.windowFlag env k } else w.windows.get j := by
  unfold Works.recompute
  dsimp only
  split
  · rename_i e
    split
    · rename_i x; subst x; rw [e]
    · rfl
  · simp only [Works.handFlag, Bank.get_put]

/-- The lines after one window has recomputed. -/
theorem Works.recompute_outputs (k q : Fin 8) :
    (w.recompute env k).outputs.get q =
      if (env.cfg.outputs.get q).mode = .window ∧ (env.cfg.outputs.get q).followed = some k ∧
          w.windowFlag env k ≠ (w.windows.get k).flag then
        { w.outputs.get q with
          followed := w.windowFlag env k
          level := if (w.outputs.get q).condition = .normal then w.windowFlag env k else (w.outputs.get q).level }
      else w.outputs.get q := by
  unfold Works.recompute
  dsimp only
  split
  · rename_i e; simp [e]
  · rename_i e
    simp only [Works.handFlag, Bank.get_change, Output.onFlag]
    exact if_congr (by simp [e]) rfl rfl

/-- A window's flag is given by its bounds and its axis. -/
theorem Works.windowFlag_congr {w w' : Works} {k : Fin 8} (h : w'.windows.get k = w.windows.get k) :
    w'.windowFlag env k = w.windowFlag env k := by
  simp only [Works.windowFlag, h]

/-- The windows of a list without repeats recompute, each once. -/
theorem Works.recomputeList (l : List (Fin 8)) (hl : l.Nodup) :
    let t := l.foldl (fun w k => if (env.cfg.windows.get k).handle = some h then w.recompute env k else w) w
    (∀ k, t.windows.get k =
      if k ∈ l ∧ (env.cfg.windows.get k).handle = some h then { w.windows.get k with flag := w.windowFlag env k }
      else w.windows.get k) ∧
    ∀ q,
      let changed (k : Fin 8) : Prop := k ∈ l ∧ (env.cfg.outputs.get q).mode = .window ∧
        (env.cfg.outputs.get q).followed = some k ∧
        (env.cfg.windows.get k).handle = some h ∧ w.windowFlag env k ≠ (w.windows.get k).flag
      ((∀ k, ¬changed k) → t.outputs.get q = w.outputs.get q) ∧
      ∀ k, changed k → t.outputs.get q =
        { w.outputs.get q with
          followed := w.windowFlag env k
          level := if (w.outputs.get q).condition = .normal then w.windowFlag env k else (w.outputs.get q).level } := by
  induction l generalizing w with
  | nil => exact ⟨fun k => by simp, fun q => ⟨fun _ => rfl, fun k x => absurd x.1 (by simp)⟩⟩
  | cons x xs ih =>
    obtain ⟨hx, hxs⟩ := List.nodup_cons.mp hl
    simp only [List.foldl_cons]
    by_cases b : (env.cfg.windows.get x).handle = some h
    · rw [if_pos b]
      have other : ∀ k, k ∈ xs → (w.recompute env x).windows.get k = w.windows.get k := by
        intro k hk
        rw [w.recompute_windows, if_neg fun (e : x = k) => hx (e ▸ hk)]
      obtain ⟨hw, ho⟩ := ih (w.recompute env x) hxs
      refine ⟨fun k => ?_, fun q => ?_⟩
      · rw [hw k]
        by_cases hk : k ∈ xs
        · simp [hk, other k hk, Works.windowFlag_congr env (other k hk)]
        · by_cases e : x = k
          · subst e; simp [hk, b, w.recompute_windows]
          · simp [hk, Ne.symm e, e, w.recompute_windows]
      · obtain ⟨stay, follow⟩ := ho q
        refine ⟨fun none => ?_, fun k c => ?_⟩
        · rw [stay, w.recompute_outputs, if_neg]
          · exact fun c => none x ⟨List.mem_cons_self, c.1, c.2.1, b, c.2.2⟩
          · rintro k ⟨hk, c⟩
            rw [other k hk, Works.windowFlag_congr env (other k hk)] at c
            exact none k ⟨List.mem_cons_of_mem _ hk, c⟩
        · obtain ⟨hk, md, fo, hd, ne⟩ := c
          rcases List.mem_cons.mp hk with rfl | hk
          · rw [stay, w.recompute_outputs, if_pos ⟨md, fo, ne⟩]
            rintro j ⟨hj, -, fo', -⟩
            exact hx (by rw [fo] at fo'; cases fo'; exact hj)
          · have same : (w.recompute env x).outputs.get q = w.outputs.get q := by
              rw [w.recompute_outputs, if_neg]
              rintro ⟨-, fo', -⟩
              exact hx (by rw [fo] at fo'; cases fo'; exact hk)
            have f := Works.windowFlag_congr env (other k hk)
            rw [follow k ⟨hk, md, fo, hd, by rwa [f, other k hk]⟩, same, f]
    · rw [if_neg b]
      obtain ⟨hw, ho⟩ := ih w hxs
      refine ⟨fun k => ?_, fun q => ?_⟩
      · rw [hw k]
        by_cases e : k = x
        · subst e; simp [b]
        · simp [e]
      · obtain ⟨stay, follow⟩ := ho q
        refine ⟨fun none => stay fun k c => none k ⟨List.mem_cons_of_mem _ c.1, c.2⟩, fun k c => follow k ⟨?_, c.2⟩⟩
        rcases List.mem_cons.mp c.1 with rfl | hk
        · exact absurd c.2.2.2.1 b
        · exact hk

/-- The windows on the handle recompute, and the lines that follow them take a changed flag. -/
theorem Works.recomputeOn_follow : w.WindowsFollow env h w.outputs (w.recomputeOn env h) := by
  obtain ⟨a, b⟩ := w.recomputeList env h (List.finRange 8) (List.nodup_finRange 8)
  exact ⟨fun k => by simpa [Works.recomputeOn] using a k, fun q => by simpa [Works.recomputeOn] using b q⟩

/-- A line is RUN only in ROTATING, so that the condition of R88 has three cases. -/
theorem State.lineCondition_eq (s : State) :
    s.lineCondition = if s.startup.status ≠ .valid then .released else if s.run = true then .normal else .forced := by
  simp [State.lineCondition, State.valid]

/-- Lines handed the condition of the station come under it. -/
theorem State.refreshLines_takes (s : State) : s.refreshLines.LinesTake s.works.outputs := by
  intro q
  have c := s.lineCondition_eq
  have o : s.refreshLines.works.outputs.get q =
      (s.works.outputs.get q).enter (s.cfg.outputs.get q) s.lineCondition := by
    simp [State.refreshLines, Works.enterCondition, State.withWorks, State.env]
  refine ⟨fun (v : s.startup.status ≠ .valid) => ?_, fun (v : s.startup.status = .valid) (r : s.run = false) => ?_,
    fun (v : s.startup.status = .valid) (r : s.run = true) => ?_⟩
  · dsimp only
    rw [o, c, if_pos v]; rfl
  · dsimp only
    rw [o, c, if_neg (not_not.mpr v), if_neg (by simp [r])]; rfl
  · dsimp only
    rw [o, c, if_neg (not_not.mpr v), if_pos r]
    unfold Output.enter
    split
    · rfl
    · cases m : (s.cfg.outputs.get q).mode <;> simp [State.refreshLines, State.withWorks, m]

/-- An ACTIVE mirror that goes STALE does so as the statements say. -/
theorem State.staleMirror_eq {s : State} {i : Fin 6} (h : (s.mirrors.get i).state = .active) :
    s.staleMirror i = s.goesStale i := by
  simp only [State.staleMirror, h, if_true]; rfl

/-- Item `n` of a sequence of equally long pieces lies in piece `n / c`, at place `n % c`. -/
theorem getD_flatMap {α β : Type} (f : α → List β) (c : Nat) (hc : 0 < c) (hf : ∀ a, (f a).length = c) (d : β)
    (l : List α) (n : Nat) :
    (l.flatMap f).getD n d = (match l[n / c]? with
      | some a => (f a).getD (n % c) d
      | none => d) := by
  induction l generalizing n with
  | nil => simp
  | cons a l ih =>
    rw [List.flatMap_cons]
    by_cases e : n < c
    · rw [List.getD_append _ _ _ _ (by rw [hf]; exact e)]
      simp [Nat.div_eq_of_lt e, Nat.mod_eq_of_lt e]
    · rw [List.getD_append_right _ _ _ _ (by rw [hf]; omega), hf, ih]
      have : n / c = (n - c) / c + 1 := by rw [Nat.div_eq_sub_div hc (by omega)]
      rw [this, List.getElem?_cons_succ, ← Nat.mod_eq_sub_mod (by omega)]

end Sys2Proof.Machine
end

