-- ==== Sys2Proof/WellFormed.lean ====
section
/-! DEFINITION. Which commands can occur at the device's pins. `exec` is total: it answers for the others too. -/

namespace Sys2Proof

/-- A command that can occur. A pass reads at most the 65536 addresses that two address bytes name (R188); a frame that ends has
at least one byte, and may be followed by any number (R119, R120); a mismatch falls within the longest own frame, 115
bytes of 10 bits (R147, R117), and one in a stop bit has read 0 where 1 was sent (R126); an unknown command's code is
not one of 01h to 0Dh (R153). -/
def Instr.wellFormed : Instr → Bool
  | .readPass memory _ => memory.length ≤ 65536
  | .receiveFrame bytes => !bytes.isEmpty
  | .abort x => x.bit < 1150 && (x.bit % 10 ≠ 9 || !x.stop)
  | .unknownCommand _ _ code => code = 0#8 || 13#8 < code
  | .coldReset _ _ => true
  | .quad4Edge _ _ _ => true
  | .pulseDirEdge _ _ _ => true
  | .upDownEdge _ _ _ => true
  | .risingZEdge _ _ => true
  | .timedPulseExpiry _ => true
  | .sensorPinChange _ _ => true
  | .qualifiedChange _ => true
  | .holdInChange _ => true
  | .holdInQualify => true
  | .startBit _ => true
  | .frameEndByIdle => true
  | .emptyBus => true
  | .waitExpiry => true
  | .completion => true
  | .readStatus _ _ _ _ => true
  | .readQueue _ _ _ _ => true
  | .trimCam _ _ _ _ _ => true
  | .trimRule _ _ _ _ => true
  | .trimWindow _ _ _ _ _ => true
  | .armRule _ _ _ _ _ => true
  | .armRing _ _ _ _ _ => true
  | .setOrigin _ _ _ _ => true
  | .armIndex _ _ _ _ => true
  | .armIndexCancel _ _ _ => true
  | .injectEntry _ _ _ _ _ _ _ _ => true
  | .clearQueue _ _ _ => true
  | .clearCounts _ _ => true
  | .pulseOutput _ _ _ _ => true
  | .restart _ _ => true
  | .resetNAsserted => true

end Sys2Proof
end

