-- ==== Sys2Proof/Tests/Slice0.lean ====
section
/-! SUPPORT. Small tests of the model, their results taken from the spec, and for each statement with hypotheses a state and
operands that meet them. -/

namespace Sys2Proof.Tests

open Sys2Proof.Machine

set_option Elab.async false

/-! ### Well-formed commands -/

theorem test_wellFormed_refuses_long_memory : (Instr.readPass (List.replicate 65537 0) true).wellFormed = false := by
  simp only [Instr.wellFormed, List.length_replicate]; decide

theorem test_wellFormed_refuses_no_bytes :
    (Instr.receiveFrame []).wellFormed = false ∧ (Instr.receiveFrame [0]).wellFormed = true := by decide

theorem test_wellFormed_refuses_late_mismatch :
    (Instr.abort ⟨1150, false⟩).wellFormed = false ∧ (Instr.abort ⟨1149, false⟩).wellFormed = true := by decide

/-- A stop bit that differs has been read at 0. -/
theorem test_wellFormed_refuses_high_stop : (Instr.abort ⟨19, true⟩).wellFormed = false := by decide

theorem test_wellFormed_refuses_known_codes :
    (Instr.unknownCommand 3 0 0x01).wellFormed = false ∧ (Instr.unknownCommand 3 0 0x0D).wellFormed = false ∧
    (Instr.unknownCommand 3 0 0x00).wellFormed = true ∧ (Instr.unknownCommand 3 0 0x0E).wellFormed = true := by decide

/-! ### Words: the table gives no row bits -/

theorem test_no_word_spells_a_command : decodeTableWord 16 0x1234 = none ∧ decodeTableWord 0 0 = none := by decide

/-! ### Bytes -/

/-- The check value of R140: the nine bytes 31h to 39h give 29B1h. -/
theorem test_crc_check_value : crc16 [0x31, 0x32, 0x33, 0x34, 0x35, 0x36, 0x37, 0x38, 0x39] = 0x29B1 := by decide +kernel

/-- R51, section 8.10: a tag of origin 3, hop 1, sequence 500, class 1, epoch 2, line axis id 6, position 10700. -/
theorem test_tag_body :
    tagBody ⟨3, 500, 1, 1, 6, 2, 10700⟩ = [0x23, 0x01, 0xF4, 0x12, 0x06, 0x00, 0x00, 0x29, 0xCC] := by decide +kernel

/-- Section 8.10: an ACTIVE TRACK axis of id 6, direction fwd, epoch 2, position 10000. -/
theorem test_axis_body :
    axisBody ⟨false, .track, 6, some .fwd, 2, 10000⟩ = [0x06, 0x12, 0x00, 0x00, 0x27, 0x10] := by decide +kernel

/-- R154: PULSE_DIST 40 on Q2. -/
theorem test_action_bytes : actionOf 0xB2 0x00 0x28 = some ⟨2, .pulseDist 40⟩ ∧
    actionBytes (some ⟨2, .pulseDist 40⟩) = [0xB2, 0x00, 0x28] := by decide +kernel

/-! ### Position arithmetic -/

/-- The example after R24: the distances ahead of A, B and C from FFFFFF00h are 272, 240 and 272, and the order is B, A, C. -/
theorem test_order_of_entries :
    let e (n : BitVec 16) (due : Pos) : Entry := ⟨1, n, .injected, 0, 0, 0, due, none, false, 0⟩
    ((insertEntry 0xFFFFFF00 (e 3 0x10) (insertEntry 0xFFFFFF00 (e 2 0xFFFFFFF0)
      (insertEntry 0xFFFFFF00 (e 1 0x10) []))).map fun x => x.sequence) = [2, 1, 3] := by decide +kernel

/-- Section 4.6, step 2: exactly half the modulus is a forward move, and one count more is backward, distance 1701. -/
theorem test_half_way_round :
    moveOf ⟨.ring, 3600⟩ 1700 3500 = some ⟨1700, 3500, .fwd, 1800⟩ ∧
    moveOf ⟨.ring, 3600⟩ 1700 3599 = some ⟨1700, 3599, .rev, 1701⟩ := by decide +kernel

/-- R123: the waits of station 3 after frames of stations 2, 3 and 9, and after a corrupt frame (R132's example: 216). -/
theorem test_waits :
    waitBits 3 (some 2) = 24 ∧ waitBits 3 (some 3) = 2008 ∧ waitBits 2 (some 9) = 1560 ∧ waitBits 3 none = 216 := by
  decide +kernel

/-! ### A station in the rotation -/

/-- The outcome's state. -/
def after (o : Host.Outcome State Fault Refusal) : State :=
  match o with
  | .next s => s
  | _ => State.reset

/-- The settings of station 7: QUAD4 and UP_DOWN axes, a mirror of id 6, two sensors, a rule, a ring, two windows. -/
def settings : Settings :=
  { Settings.unconfigured with
    absentLimit := 2, console := 0x208, lateTolerance := 50, jumpLimit := 2000
    axes := (Settings.unconfigured.axes.put 0 ⟨.quad4, false, .track, 0, true⟩).put 1 ⟨.upDown, false, .ring, 50, false⟩
    mirrors := Settings.unconfigured.mirrors.put 0 ⟨some 6, .track, 0⟩
    sensors := (Settings.unconfigured.sensors.put 0 ⟨.rise, 0, 4, some 0, 1, true⟩).put 1 ⟨.fall, 1, 4, some 2, 2, true⟩
    rules := Settings.unconfigured.rules.put 1
      ⟨.line, 2, some 3, some 0, none, 1200, some ⟨2, .pulseDist 40⟩, true, true⟩
    rings := Settings.unconfigured.rings.put 0
      ⟨some 0, [⟨1, .fwd, true, some ⟨1, .set⟩⟩, ⟨1, .fwd, false, none⟩, ⟨9, .rev, true, none⟩], true⟩
    windows := (Settings.unconfigured.windows.put 0 ⟨some 0, 0, 10⟩).put 1 ⟨some 1, 45, 5⟩
    outputs := Settings.unconfigured.outputs.put 7 ⟨.window, some 0, false, true⟩ }

/-- Station 7, ROTATING and in RUN, its lines NORMAL and its axes at 0. -/
def station : State :=
  { State.reset with
    held := false
    startup := ⟨.valid, 0, 1⟩
    cfg := settings
    bus := { Bus.cold 7 2 true with station := .rotating, wait := some ⟨24, 0⟩ }
    axes := Bank.fill ⟨0, 0, .active, none, none, false, false, false⟩
    rules := Bank.fill ⟨1200, true⟩
    roster := State.reset.roster.put 7 ⟨.present, 0, false⟩
    works := { State.reset.works with
      rings := State.reset.works.rings.put 0 ⟨0, true, [1, 1, 9]⟩
      windows := (State.reset.works.windows.put 0 ⟨0, 10, true⟩).put 1 ⟨45, 5, true⟩
      outputs := (Bank.fill ⟨.normal, false, .idle, false⟩ : Bank Output 8).put 7 ⟨.normal, true, .idle, true⟩ } }

/-- `s` with its bus as `f` makes it. -/
def onBus (s : State) (f : Bus → Bus) : State := { s with bus := f s.bus }

/-- `s` with its consumer blocks as `f` makes them. -/
def onWorks (s : State) (f : Works → Works) : State := { s with works := f s.works }

/-- The station in LISTENING. -/
def listening : State := onBus station fun b => { b with station := .listening, wait := none }

/-- The station with local axis 0 as given. -/
def withAxis0 (x : LocalAxis) : State := { station with axes := station.axes.put 0 x }

/-- A frame from `source` with these items. -/
def frameFrom (source : Station) (hold : Bool) (items : List (List Byte)) : List Byte :=
  frameBytes (headerByte false hold true source) items.length items.flatten

/-- A frame of station 3 reporting id 6 ACTIVE in epoch 0 at 10000. -/
def report3 : List Byte := frameFrom 3 false [itemBytes 1 (axisBody ⟨false, .track, 6, some .fwd, 0, 10000⟩)]

/-- An entry of origin 3, due at `due`. -/
def entry (n : BitVec 16) (due : Pos) : Entry := ⟨3, n, .rule 1, 1, 0, 0, due, some ⟨2, .pulseDist 40⟩, true, 0⟩

/-- The station with two entries on handle 0, due at 1 and at 5. -/
def queued : State := onWorks station fun w => { w with queues := w.queues.put 0 [entry 500 1, entry 501 5] }

/-- The OK response of a RESTART that station 9 asked for. -/
def restartResponse : Response := ⟨9, 4, 0x0D, .ok, []⟩

/-- The station with its own frame in flight, which carries that response. -/
def sending : State :=
  onWorks (onBus station fun b => { b with wait := none, flight := some ⟨frameFrom 7 false [], 1, [(.queueFull, 2)]⟩ })
    fun w => { w with txQueue := [.rsp restartResponse, .rsp restartResponse] }

/-! ### One step of each row -/

theorem test_cold_reset_starts_a_pass :
    (after (exec (.coldReset 7 2) State.reset)).startup = ⟨.pending, 0, 1⟩ ∧
    (after (exec (.coldReset 7 2) State.reset)).bus.number = 7 := by decide +kernel

/-- R189: a memory that does not answer fails the first pass at the length test (FFFFh); the second ends LOADING, check 1. -/
theorem test_read_pass_fails_twice :
    (after (exec (.readPass [] true) (after (exec (.coldReset 7 2) State.reset)))).startup = ⟨.pending, 0, 2⟩ ∧
    (after (exec (.readPass [] true)
      { after (exec (.coldReset 7 2) State.reset) with startup := ⟨.pending, 0, 2⟩ })).startup = ⟨.invalid, 1, 2⟩ := by
  decide +kernel

/-- R12: from (0, 0) to (1, 0) is forward; to (1, 1) is an encoder fault. -/
theorem test_quad4_counts_and_faults :
    ((after (exec (.quad4Edge 0 true false) station)).axes.get 0).position = 1 ∧
    ((after (exec (.quad4Edge 0 true true) station)).axes.get 0).state = .faulted := by decide +kernel

/-- R71, section 4.4: one count onto two entries at the same position takes both; the first sets Q1. -/
theorem test_quad4_walks_the_ring :
    ((after (exec (.quad4Edge 0 true false) station)).works.rings.get 0).pointer = 2 ∧
    ((after (exec (.quad4Edge 0 true false) station)).works.outputs.get 1).level = true := by decide +kernel

/-- The station with local axis 0 in PULSE_DIR mode. -/
def pulseDir : State := { station with cfg := { settings with axes := settings.axes.put 0 ⟨.pulseDir, false, .track, 0, true⟩ } }

/-- R13: B at 1 gives a backward count. -/
theorem test_pulse_dir_backward :
    ((after (exec (.pulseDirEdge 0 true true) pulseDir)).axes.get 0).position = 0xFFFFFFFF := by decide +kernel

/-- R13, R4: a rising B is backward, and 0 wraps to M − 1. -/
theorem test_up_down_wraps : ((after (exec (.upDownEdge 1 false true) station)).axes.get 1).position = 49 := by decide +kernel

/-- Section 1.6: Z rises on an axis armed with 0: position 0, the next epoch, no direction, arm clear. -/
theorem test_index_origin :
    (after (exec (.risingZEdge 0 true)
      (withAxis0 ⟨5002, 3, .active, some .fwd, some 0, true, true, false⟩))).axes.get 0 =
      ⟨0, 4, .active, none, none, true, true, true⟩ := by decide +kernel

/-- R93: an expired pulse leaves level 0. -/
theorem test_timed_pulse_expires :
    (after (exec (.timedPulseExpiry 1)
      (onWorks station fun w => { w with outputs := w.outputs.put 1 ⟨.normal, true, .timed 3 0, false⟩ }))).works.outputs.get 1 =
      ⟨.normal, false, .idle, false⟩ := by decide +kernel

/-- R46, R51, R54: filter code 0, a rising edge captures at once and the tag is published. -/
theorem test_sensor_captures :
    (after (exec (.sensorPinChange 0 true) station)).works.txQueue = [.tag ⟨7, 0, 1, 0, 14, 0, 0⟩] ∧
    (after (exec (.sensorPinChange 0 true) station)).nextSequence = 1 := by decide +kernel

/-- R46: filter code 1 begins a pending change. -/
theorem test_sensor_pends : ((after (exec (.sensorPinChange 1 true) station)).works.sensors.get 1).pending = some 0 := by
  decide +kernel

/-- R47: a rising edge of a FALL sensor is not of interest; its level is taken all the same. -/
theorem test_qualified_without_interest :
    ((after (exec (.qualifiedChange 1)
      (onWorks station fun w => { w with sensors := w.sensors.put 1 ⟨true, false, some 100, 0⟩ }))).works.sensors.get 1) =
      ⟨true, true, none, 0⟩ := by decide +kernel

/-- R161: a change begins, and qualified it holds the line and forces the lines. -/
theorem test_hold_in :
    (after (exec (.holdInChange false) station)).holdIn = ⟨false, false, some 0⟩ ∧
    ((after (exec .holdInQualify { station with holdIn := ⟨false, false, some 20000⟩ })).works.outputs.get 7) =
      ⟨.forced, true, .idle, true⟩ := by decide +kernel

/-- R119, R124: a start bit after 24 bit times begins a frame and cancels the wait; after 23 it is a gap violation. -/
theorem test_start_bit :
    (after (exec (.startBit (.start 24 true)) station)).bus.reception = .frame ∧
    (after (exec (.startBit (.start 24 true)) station)).bus.wait = none ∧
    (after (exec (.startBit (.start 23 true)) station)).bus.reception = .corrupt := by decide +kernel

/-- R117, R118: after a byte whose stop bit reads 0 the frame is corrupt, and no start bit is looked for until BUS_RXD is 1. -/
theorem test_framing_error :
    let s := after (exec (.startBit (.start 24 false)) station)
    s.bus.reception = .corrupt ∧ after (exec (.startBit (.start 0 true)) s) = s ∧
    (after (exec (.startBit (.level true)) s)).hears = true := by decide +kernel

/-- R118: a fall that holds is a start bit, which ends the wait and counts no idle. -/
theorem test_held_low :
    let s := after (exec (.startBit (.level false)) station)
    s.bus.wait = none ∧ s.bus.reception ≠ .none ∧ s.bus.rxd = false := by decide +kernel

/-- R105 to R107: station 3's report takes an UNSEEN mirror of epoch 0 to ACTIVE at 10000. -/
theorem test_receive_report :
    (after (exec (.receiveFrame report3) station)).mirrors.get 0 = ⟨.active, 0, 10000, some .fwd⟩ ∧
    (after (exec (.receiveFrame report3) station)).bus.anchor = some 3 := by decide +kernel

/-- R121: a frame with a wrong CRC counts BAD_FRAME and leaves the anchor unknown. -/
theorem test_receive_corrupt :
    (after (exec (.receiveFrame (0xC3 :: List.replicate 5 0)) station)).works.notices.counters.get 15 = 1 := by decide +kernel

/-- R119, R120: a valid frame stands though bytes follow it at once; they begin a corrupt frame, and no wait runs. -/
theorem test_receive_overlong :
    let t := after (exec (.receiveFrame (report3 ++ [0x55])) station)
    (t.mirrors.get 0).state = .active ∧ t.bus.anchor = some 3 ∧ t.bus.reception = .corrupt ∧ t.bus.wait = none := by
  decide +kernel

theorem test_frame_end_by_idle :
    (after (exec .frameEndByIdle (onBus station fun b => { b with reception := .frame, wait := none }))).bus.wait =
      some ⟨24 + 64 * 7, 97⟩ := by decide +kernel

/-- R120: idle is counted from the frame's end, not from before a frame that no START_BIT announced. -/
theorem test_idle_from_frame_end :
    (after (exec .frameEndByIdle (onBus station fun b => { b with idle := 9000 }))).bus.wait =
      some ⟨24 + 64 * 7, 97⟩ := by decide +kernel

theorem test_empty_bus_joins :
    (after (exec .emptyBus listening)).bus.station = .rotating ∧
    (after (exec .emptyBus listening)).bus.wait = some ⟨24 + 64 * 7, 0⟩ := by decide +kernel

/-- R138, R147: the frame of a station with nothing to send but its AXIS item has one item of seven bytes. -/
theorem test_wait_expiry_sends :
    (after (exec .waitExpiry station)).bus.flight.map (fun f => (f.bytes.length, f.bytes.take 5)) =
      some (13, [0xC3, 0x27, 1, 7, 0x16]) := by decide +kernel

/-- R127: after a completion the anchor is the own number and the wait is 2008. -/
theorem test_completion :
    let s := onBus sending fun b => { b with flight := some ⟨frameFrom 7 false [], 1, []⟩ }
    (after (exec .completion s)).bus.wait = some ⟨2008, 0⟩ ∧
    (after (exec .completion s)).works.txQueue = [.rsp restartResponse] := by decide +kernel

theorem test_abort_keeps_items :
    (after (exec (.abort ⟨17, true⟩) sending)).works.txQueue = sending.works.txQueue ∧
    (after (exec (.abort ⟨17, true⟩) sending)).works.notices.counters.get 14 = 1 := by decide +kernel

/-- R118, R120: a start bit read back at 1 begins no byte, so the remains ended half a bit time before. -/
theorem test_abort_at_start_bit :
    (after (exec (.abort ⟨20, true⟩) sending)).bus.byteLeft = 0 ∧
    (after (exec (.abort ⟨20, true⟩) sending)).bus.idle * 2 = bitClocks sending.bus.rate := by decide +kernel

/-- The response the station queues last. -/
def answer (s : State) : Option TxItem := s.works.txQueue.getLast?

theorem test_read_status :
    answer (after (exec (.readStatus 9 1 0 0) station)) =
      some (.rsp ⟨9, 1, 1, .ok, [0, 0, 0, 0, 0, 0, 0, 0, 0, 0]⟩) := by decide +kernel

/-- R41, section 8.10: the entry's twelve bytes. -/
theorem test_read_queue :
    answer (after (exec (.readQueue 9 1 0 1) queued)) =
      some (.rsp ⟨9, 1, 2, .ok, [0x83, 0x01, 0xF5, 0x10, 1, 0, 0, 0, 5, 0xB2, 0, 40]⟩) := by decide +kernel

theorem test_trim_cam :
    ((after (exec (.trimCam 9 1 0 2 77) station)).works.rings.get 0).positions = [1, 1, 77] ∧
    answer (after (exec (.trimCam 9 1 0 3 77) station)) = some (.rsp ⟨9, 1, 3, .badParam, []⟩) := by decide +kernel

theorem test_trim_rule :
    ((after (exec (.trimRule 9 1 7 0xC0000000) station)).rules.get 7).offset = 0xC0000000 ∧
    answer (after (exec (.trimRule 9 1 7 0xBFFFFFFF) station)) = some (.rsp ⟨9, 1, 4, .badParam, []⟩) := by decide +kernel

/-- R82: the WINDOW line moves at the trim. -/
theorem test_trim_window :
    ((after (exec (.trimWindow 9 1 0 1 10) station)).works.outputs.get 7).level = false := by decide +kernel

theorem test_arm_rule : ((after (exec (.armRule 9 1 7 0 99) station)).rules.get 7).armed = false := by decide +kernel

theorem test_arm_ring :
    ((after (exec (.armRing 9 1 0 1 2) station)).works.rings.get 0).pointer = 2 ∧
    answer (after (exec (.armRing 9 1 0 1 3) station)) = some (.rsp ⟨9, 1, 6, .badParam, []⟩) := by decide +kernel

theorem test_set_origin :
    ((after (exec (.setOrigin 9 1 1 49) station)).axes.get 1).position = 49 ∧
    answer (after (exec (.setOrigin 9 1 1 50) station)) = some (.rsp ⟨9, 1, 7, .badParam, []⟩) := by decide +kernel

theorem test_arm_index :
    ((after (exec (.armIndex 9 1 0 5) station)).axes.get 0).arm = some 5 ∧
    answer (after (exec (.armIndex 9 1 2 5) station)) = some (.rsp ⟨9, 1, 8, .badParam, []⟩) := by decide +kernel

theorem test_arm_index_cancel :
    ((after (exec (.armIndexCancel 9 1 0)
      (withAxis0 ⟨0, 0, .active, none, some 5, false, false, false⟩))).axes.get 0).arm = none := by decide +kernel

/-- R39: a due at the position is fired at once and answered OK; the entry is not held. -/
theorem test_inject_late :
    (after (exec (.injectEntry 9 1 0 0 8 1 false (some ⟨3, .set⟩)) station)).works.entries = [] ∧
    ((after (exec (.injectEntry 9 1 0 0 8 1 false (some ⟨3, .set⟩)) station)).works.outputs.get 3).level = true := by
  decide +kernel

theorem test_clear_queue :
    answer (after (exec (.clearQueue 9 1 0xFF) queued)) = some (.rsp ⟨9, 1, 0x0A, .ok, [2]⟩) := by decide +kernel

theorem test_clear_counts :
    (after (exec (.clearCounts 9 1) station)).works.notices.counters.get 18 = 1 := by decide +kernel

theorem test_pulse_output :
    (after (exec (.pulseOutput 9 1 3 30) station)).works.outputs.get 3 = ⟨.normal, true, .timed 30 0, false⟩ ∧
    answer (after (exec (.pulseOutput 9 1 7 30) station)) = some (.rsp ⟨9, 1, 0x0C, .badParam, []⟩) := by decide +kernel

theorem test_restart : (after (exec (.restart 9 1) station)).command.restartPending = true := by decide +kernel

theorem test_reset_n : (after (exec .resetNAsserted station)).held = true := by decide +kernel

theorem test_unknown_command :
    answer (after (exec (.unknownCommand 9 1 0x2D) station)) = some (.rsp ⟨9, 1, 0x2D, .unknownCommand, []⟩) ∧
    responseBody ⟨9, 1, 0x2D, .unknownCommand, []⟩ = [9, 1, 0xAD] := by
  decide +kernel

/-- R188: a pass that fails the length test sends 03h 00h 00h and then clocks four bytes, each 16 periods of CLK_IN. -/
theorem test_short_pass :
    passSends [] true = [3, 0, 0, 0, 0, 0, 0] ∧ (passPins [] true).length = 7 * 16 + 20 ∧
    (passPins [] true)[14]? = some ⟨false, false, some true⟩ ∧ (passPins [] true)[13]? = some ⟨false, true, some true⟩ := by
  decide +kernel

/-! ### States and operands that meet the hypotheses of the statements -/

theorem witness_ResetHoldsTheDevice :
    (∀ number rate, Instr.completion ≠ .coldReset number rate) ∧ bringsLevel .completion = false := by
  exact ⟨nofun, by decide⟩

/-- Station 7 in LOADING, the first pass under way. -/
def loading : State := after (exec (.coldReset 7 2) State.reset)

/-! A configuration block of 314 bytes: a QUAD4 axis and a RING one, a TRACK mirror and a RING one, a sensor on handle 0, a LINE rule
and a SENSOR rule, a ring of one entry, a window, and a WINDOW line. It stands in segments, so that each is a small evaluation. -/

def blockHead : List Byte := [1, 0x01, 0x3A, 0x00, 7, 0, 0, 0, 0, 0, 0, 2, 8, 0xFF, 0xFF, 1, 0, 50, 1, 0, 0, 0]

def blockAxes : List Byte :=
  [0x11, 0, 0, 0, 0] ++ [0x08, 1, 0, 0, 0] ++ [6, 0, 0, 0, 0, 0] ++ [8, 1, 0, 0, 0, 2] ++
    (List.replicate 4 [0xFF, 0, 0, 0, 0, 0]).flatten

def blockSensors : List Byte := [1, 0, 0, 4, 0, 0x81] ++ (List.replicate 3 [0, 0, 0, 0, 0xFF, 0]).flatten

def unusedRule : List Byte := [4, 0, 0, 0xFF, 0xFF, 0xFF, 0, 0, 0, 0, 0, 0, 0, 0]

def blockRules : List Byte :=
  [4, 0x00, 0x02, 3, 0, 0, 0x40, 0, 0, 0, 0xB2, 0, 40, 3] ++ [0, 0, 0, 0xFF, 0xFF, 0xFF, 0, 0, 0, 0, 0, 0, 0, 2]

def twoRules : List Byte := unusedRule ++ unusedRule

def blockRings : List Byte := [0, 1, 1, 0, 0, 0, 9, 0x81, 0x81, 0, 0] ++ (List.replicate 3 [0xFF, 0, 0]).flatten

def blockWindows : List Byte :=
  [0, 0, 0, 0, 0, 0, 0, 0, 10] ++ (List.replicate 3 [0xFF, 0, 0, 0, 0, 0, 0, 0, 0]).flatten

def moreWindows : List Byte := (List.replicate 4 [0xFF, 0, 0, 0, 0, 0, 0, 0, 0]).flatten

def blockOutputs (followed : Byte) : List Byte := (List.replicate 7 [0, 0xFF]).flatten ++ [5, followed]

/-- All but the CRC. -/
def covered (followed : Byte) : List Byte :=
  blockHead ++ blockAxes ++ blockSensors ++ blockRules ++ twoRules ++ twoRules ++ twoRules ++ blockRings ++ blockWindows ++
    moreWindows ++ blockOutputs followed

/-- The block whose WINDOW line follows window 0. -/
def goodBlock : List Byte := covered 0 ++ bytes16 51260

/-- The block whose WINDOW line follows no window (check 13). -/
def badBlock : List Byte := covered 0xFF ++ bytes16 54988

theorem crc_head : blockHead.foldl crcByte 0xFFFF#16 = 51287#16 := by decide +kernel

theorem crc_axes : blockAxes.foldl crcByte 51287#16 = 44291#16 := by decide +kernel

theorem crc_sensors : blockSensors.foldl crcByte 44291#16 = 31005#16 := by decide +kernel

theorem crc_rules : blockRules.foldl crcByte 31005#16 = 44856#16 := by decide +kernel

theorem crc_rules2 : twoRules.foldl crcByte 44856#16 = 32791#16 := by decide +kernel

theorem crc_rules4 : twoRules.foldl crcByte 32791#16 = 54526#16 := by decide +kernel

theorem crc_rules6 : twoRules.foldl crcByte 54526#16 = 45630#16 := by decide +kernel

theorem crc_rings : blockRings.foldl crcByte 45630#16 = 26723#16 := by decide +kernel

theorem crc_windows : blockWindows.foldl crcByte 26723#16 = 59565#16 := by decide +kernel

theorem crc_moreWindows : moreWindows.foldl crcByte 59565#16 = 46475#16 := by decide +kernel

theorem crc_outputs : (blockOutputs 0).foldl crcByte 46475#16 = 51260#16 ∧
    (blockOutputs 0xFF).foldl crcByte 46475#16 = 54988#16 := by decide +kernel

theorem crc_covered : crc16 (covered 0) = 51260#16 ∧ crc16 (covered 0xFF) = 54988#16 := by
  simp only [crc16, covered, List.foldl_append, crc_head, crc_axes, crc_sensors, crc_rules, crc_rules2,
    crc_rules4, crc_rules6, crc_rings, crc_windows, crc_moreWindows, crc_outputs, and_self]

/-- What a memory of at least `n` bytes answers is its first `n` bytes. -/
theorem pass_take (l : List Byte) (miso : Bool) (n : Nat) (h : n ≤ l.length) :
    (List.range n).map (passByte l miso) = l.take n := by
  apply List.ext_getElem
  · simp [h]
  · intro i hi _
    have : i < l.length := by simp at hi; omega
    simp [passByte, List.getD, this]

theorem block_lengths : goodBlock.length = 314 ∧ badBlock.length = 314 ∧ (covered 0).length = 312 ∧
    (covered 0xFF).length = 312 := by decide +kernel

theorem block_says_314 : passLength goodBlock true = 314 ∧ passLength badBlock true = 314 := by decide +kernel

theorem pass_reads_all : passBytes goodBlock true = goodBlock ∧ passBytes badBlock true = badBlock := by
  simp only [passBytes, block_says_314]
  constructor
  · rw [pass_take _ _ _ (by rw [block_lengths.1]), List.take_of_length_le (by rw [block_lengths.1])]
  · rw [pass_take _ _ _ (by rw [block_lengths.2.1]), List.take_of_length_le (by rw [block_lengths.2.1])]

theorem pass_covers : (List.range 312).map (passByte goodBlock true) = covered 0 ∧
    (List.range 312).map (passByte badBlock true) = covered 0xFF := by
  constructor
  · rw [pass_take _ _ _ (by rw [block_lengths.1]; omega)]
    exact List.take_left' block_lengths.2.2.1
  · rw [pass_take _ _ _ (by rw [block_lengths.2.1]; omega)]
    exact List.take_left' block_lengths.2.2.2

theorem crc_sent : be16 (passByte goodBlock true 312) (passByte goodBlock true 313) = 51260#16 ∧
    be16 (passByte badBlock true 312) (passByte badBlock true 313) = 54988#16 := by decide +kernel

theorem pass_succeeds : ¬PassFails goodBlock true ∧ ¬PassFails badBlock true := by
  simp only [PassFails, block_says_314, Nat.reduceSub, Nat.reduceLT, pass_covers, crc_covered, crc_sent]
  decide

theorem good_checks : ∀ x ∈ (blockOf goodBlock).checks 7, x.2 = false := by decide +kernel

theorem no_check_fails : ∀ n, (n, true) ∉ (blockOf goodBlock).checks 7 := by
  intro n hn
  exact absurd (good_checks _ hn) (by simp)

theorem witness_FailedLoading :
    (loading.held = false ∧ loading.bus.station = .loading ∧ loading.startup.passCount < 2) ∧
    PassFails [] true ∧ PassFails [1, 1, 0x31] false ∧
    (station.held = true ∨ station.bus.station ≠ .loading) ∧
    ¬PassFails badBlock true ∧ (13, true) ∈ (blockOf (passBytes badBlock true)).checks loading.bus.number ∧
      ∀ m < 13, (m, true) ∉ (blockOf (passBytes badBlock true)).checks loading.bus.number := by
  refine ⟨by decide +kernel, ?_, ?_, by decide +kernel, pass_succeeds.2, ?_⟩
  · exact .inr (.inl (by decide +kernel))
  · exact .inl (by decide +kernel)
  · rw [pass_reads_all.2]
    decide +kernel

theorem witness_ValidBlock :
    loading.held = false ∧ loading.bus.station = .loading ∧ ¬PassFails goodBlock true ∧
    (∀ n, (n, true) ∉ (blockOf (passBytes goodBlock true)).checks loading.bus.number) ∧
    (∀ q, (loading.works.outputs.get q).condition = .released) := by
  refine ⟨by decide +kernel, by decide +kernel, pass_succeeds.1, ?_, by decide +kernel⟩
  rw [pass_reads_all.1, show loading.bus.number = 7 by decide +kernel]
  exact no_check_fails

theorem witness_CheckedSettings :
    (∀ n, (n, true) ∉ (blockOf goodBlock).checks 7) ∧
    let c := (blockOf goodBlock).settings
    c.absentLimit = 7 ∧ c.jumpLimit = 16777216 ∧ (c.mirrors.get 0).lineAxis = some 6 ∧ (c.sensors.get 0).edge ≠ .none ∧
    (c.axes.get 1).kind = .ring ∧ (c.axes.get 1).modulus = 16777216 ∧ (c.mirrors.get 1).kind = .ring ∧
    (c.mirrors.get 1).lineAxis = some 8 ∧ (c.mirrors.get 1).modulus = 2 ∧
    (c.rules.get 1).source = .sensor 0 ∧ (c.rules.get 0).gate = some 0 ∧
    (c.rules.get 0).offset.toInt = 1073741824 ∧ (c.rings.get 0).handle = some 0 ∧ (c.windows.get 0).handle = some 0 ∧
    (c.outputs.get 7).mode = .window :=
  ⟨no_check_fails, by decide +kernel⟩

/-- R191, R85: the block's settings make axis 0 ACTIVE and Q7 FORCED at its safe level, the flag of its window handed to it. -/
theorem test_read_pass_valid :
    ((loading.configure (blockOf goodBlock).settings).axes.get 0).state = .active ∧
    (loading.configure (blockOf goodBlock).settings).works.outputs.get 7 = ⟨.forced, true, .idle, true⟩ := by decide +kernel

/-- The levels (A, B) of local axis 0. -/
def levels (a b : Bool) (st : AxisState) : State := withAxis0 ⟨0, 0, st, none, none, a, b, false⟩

theorem witness_Quad4Sample :
    let s := levels false false .active
    (s.cfg.axes.get 0).mode = .quad4 ∧ (s.axes.get 0).state = .active ∧
    (false, false) = ((s.axes.get 0).refA, (s.axes.get 0).refB) ∧
    (true, false) = quadNext ((s.axes.get 0).refA, (s.axes.get 0).refB) ∧
    ((s.axes.get 0).refA, (s.axes.get 0).refB) = quadNext (false, true) ∧
    (true ≠ (s.axes.get 0).refA ∧ true ≠ (s.axes.get 0).refB) ∧ s.startup.status = .valid ∧ s.held = false ∧
    ({ s with cfg := { s.cfg with holdOnFault := true } } : State).cfg.holdOnFault = true ∧
    ((levels false false .faulted).axes.get 0).state ≠ .active := by decide +kernel

theorem witness_PulseSamples :
    ((pulseDir.cfg.axes.get 0).mode = .pulseDir ∧ (pulseDir.axes.get 0).state = .active ∧
      (pulseDir.axes.get 0).refA = false) ∧
    ((station.cfg.axes.get 1).mode = .upDown ∧ (station.axes.get 1).state = .active ∧
      (station.axes.get 1).refA = false ∧ (station.axes.get 1).refB = false ∧
      2 ≤ (station.cfg.axes.get 1).modulus ∧ (station.cfg.axes.get 1).modulus ≤ 16777216 ∧
      (station.axes.get 1).position.toNat < (station.cfg.axes.get 1).modulus) ∧
    ((levels false false .faulted).axes.get 0).state ≠ .active := by decide +kernel

theorem witness_CountSteps :
    (station.cfg.geometry (localHandle 0)).kind = .track ∧ (station.cfg.geometry (localHandle 1)).kind = .ring ∧
    2 ≤ (station.cfg.geometry (localHandle 1)).modulus ∧ (station.cfg.geometry (localHandle 1)).modulus ≤ 16777216 ∧
    (station.axes.get 1).position.toNat < (station.cfg.geometry (localHandle 1)).modulus := by decide +kernel

theorem witness_RisingZ :
    let s := withAxis0 ⟨5, 0, .faulted, none, some 9, false, false, false⟩
    ((s.axes.get 0).refZ = false ∧ (s.axes.get 0).state ≠ .off ∧ (s.axes.get 0).arm = some 9) ∧
    (station.axes.get 0).arm = none := by decide +kernel

theorem witness_OriginEvent :
    let s := onWorks queued fun w => { w with outputs := w.outputs.put 3 ⟨.normal, true, .distance 0 4, false⟩ }
    (s.works.outputs.get 3).pulse = .distance (localHandle 0) 4 ∧ s.works.notices.counters.get 6 ≤ 65535 ∧
    (s.works.queues.get (localHandle 0)).length = 2 := by decide +kernel

theorem witness_PositionEventQueue :
    (⟨0, 1, .fwd, 1⟩ : Move).dir = .fwd ∧ (⟨1, 0, .rev, 1⟩ : Move).dir = .rev ∧ queued.env.lineAxis 0 = some 14 ∧
    queued.env.active 0 = true ∧ queued.works.notices.counters.get 5 ≤ 65535 := by decide +kernel

theorem witness_PositionEventOthers :
    station.env.active 0 = true ∧ (station.cfg.outputs.get 1).mode = .action ∧ (station.cfg.outputs.get 7).mode = .window ∧
    (station.cfg.outputs.get 7).followed = some 0 ∧ station.env.run = true := by decide +kernel

theorem witness_SilentPassage :
    let s := onWorks queued fun w => { w with outputs := w.outputs.put 3 ⟨.normal, true, .distance 0 1, false⟩ }
    s.works.notices.counters.get 4 ≤ 65535 ∧ (s.cfg.outputs.get 3).mode = .action ∧
    (s.works.outputs.get 3).pulse = .distance 0 1 ∧ crosses (s.cfg.geometry 0) ⟨0, 1, .fwd, 1⟩ 1 = true ∧
    crosses (s.cfg.geometry 0) ⟨1, 2, .fwd, 1⟩ 1 = false := by decide +kernel

theorem witness_RingWalk : 2 < (settings.rings.get 0).entries.length ∧
    (station.works.rings.get 0).positions.length = (settings.rings.get 0).entries.length := by decide +kernel

theorem witness_WindowTable :
    (station.cfg.windows.get 2).handle = none ∧
    (station.cfg.windows.get 0).handle = some 0 ∧ station.env.active 0 = true ∧
      (station.cfg.geometry 0).kind = .track ∧
    (station.cfg.windows.get 1).handle = some 1 ∧ station.env.active 1 = true ∧
      (station.cfg.geometry 1).kind = .ring ∧ (station.works.windows.get 1).lower.toNat < (station.cfg.geometry 1).modulus ∧
      (station.works.windows.get 1).upper.toNat < (station.works.windows.get 1).lower.toNat ∧
    (levels false false .faulted).env.active 0 = false := by decide +kernel

/-- 64 entries on handle 0. -/
def full : State :=
  onWorks station fun w => { w with queues := w.queues.put 0 ((List.range 64).map fun n => entry (.ofNat 16 n) 9) }

theorem witness_OfferDecided :
    (station.axes.get 0).state = .active ∧ (entry 500 1).epoch = station.env.epoch 0 ∧
    isAhead (entry 500 1).due (station.env.position 0) = true ∧ station.works.entries.length < 64 ∧
    64 ≤ full.works.entries.length ∧
    isAhead (entry 500 0).due (station.env.position 0) = false ∧
    -(signedDifference (entry 500 0xFFFFFFCE).due (station.env.position 0)) = (station.cfg.lateTolerance : Int) ∧
    (station.cfg.lateTolerance : Int) < -(signedDifference (entry 500 0xFFFFFFCD).due (station.env.position 0)) ∧
    entry 500 1 ∈ queued.works.queues.get 0 ∧
    ((levels false false .faulted).axes.get 0).state ≠ .active ∧
    ((withAxis0 ⟨0, 1, .active, none, none, false, false, false⟩).env.epoch 0) ≠ (entry 500 1).epoch := by decide +kernel

theorem witness_LateFire :
    (entry 500 0).forward = true ∧ (entry 500 0).hop ≠ 3 ∧ station.env.lineAxis 0 = some 14 ∧ station.works.tagsHeld < 12 ∧
    station.works.notices.counters.get 2 < 65535 ∧ ¬((3 : BitVec 2) ≠ 3) ∧
    12 ≤ (onWorks station fun w => { w with txQueue := List.replicate 12 (.tag ⟨7, 0, 1, 0, 14, 0, 0⟩) }).works.tagsHeld := by
  decide +kernel

theorem witness_InsertionOrder :
    [entry 1 5, entry 2 5, entry 3 9].Pairwise fun a b => a.distanceAhead 0 ≤ b.distanceAhead 0 := by decide +kernel

theorem witness_ActionTaken :
    (station.cfg.outputs.get 2).mode = .action ∧ (station.works.outputs.get 2).condition = .normal ∧
    (station.cfg.outputs.get 7).mode ≠ .action ∧ station.env.active 1 = true ∧
    (station.cfg.geometry 1).modulus ≤ 16777216 ∧ 1 ≤ (station.cfg.geometry 1).modulus ∧
    (loading.works.outputs.get 2).condition = .released ∧ (station.works.outputs.get 2).condition ≠ .released ∧
    (station.cfg.outputs.get 2).lowActive = false ∧
    (({ station.cfg with outputs := station.cfg.outputs.put 2 ⟨.action, none, true, false⟩ } : Settings).outputs.get 2).lowActive =
      true := by decide +kernel

theorem witness_TimersRun :
    (⟨.normal, true, .timed 3 0, false⟩ : Output).pulse = .timed 3 0 ∧ (station.works.outputs.get 1).pulse = .idle ∧
    station.held = false ∧ State.reset.held = true ∧ station.hears = true ∧
    ({ station with holdIn := ⟨false, false, some 20000⟩ } : State).due .holdIn = true ∧
    ({ station with holdIn := ⟨false, false, some 19999⟩ } : State).due .holdIn = false := by
  decide +kernel

/-- The station with sensor 1 as given. -/
def withSensor1 (x : Sensor) : State := onWorks station fun w => { w with sensors := w.sensors.put 1 x }

theorem witness_SensorChange :
    (station.held = false ∧ station.bus.station ≠ .loading ∧ station.startup.status = .valid) ∧
    (station.cfg.sensors.get 0).filter = 0 ∧ (station.cfg.sensors.get 1).filter ≠ 0 ∧
    (station.works.sensors.get 0).qualified ≠ true ∧
    ((withSensor1 ⟨true, false, some 3, 0⟩).works.sensors.get 1).pending = some 3 ∧
    (station.works.sensors.get 1).pending = none ∧ loading.startup.status ≠ .valid ∧
    ((withSensor1 ⟨false, true, some 3, 1⟩).works.sensors.get 1).lockout ≠ 0 := by decide +kernel

theorem witness_CaptureMakesTag :
    let s := onWorks station fun w => { w with sensors := w.sensors.put 0 ⟨true, false, some 0, 0⟩ }
    s.held = false ∧
    (s.works.sensors.get 0).pending ≠ none ∧ (s.works.sensors.get 0).lockout = 0 ∧ s.bus.station = .rotating ∧
    s.startup.status = .valid ∧ (s.works.sensors.get 0).qualified = false ∧ (s.cfg.sensors.get 0).edge = .rise ∧
    (s.cfg.sensors.get 0).capture = some 0 ∧ s.env.active 0 = true ∧ s.env.lineAxis 0 = some 14 ∧
    (levels false false .faulted).env.active 0 = false := by decide +kernel

/-- The station with its mirror of id 6 ACTIVE at 10000. -/
def mirrored : State :=
  { station with
    mirrors := station.mirrors.put 0 ⟨.active, 2, 10000, some .fwd⟩
    roster := station.roster.put 3 ⟨.present, 0, false⟩ }

theorem witness_RemoteTag :
    mirrored.cfg.isTrack 2 = true ∧ mirrored.env.lineAxis 2 = some 6 ∧
    (∀ h, mirrored.cfg.isTrack h = true → mirrored.env.lineAxis h = some 6 → h = 2) ∧
    (∀ h, mirrored.cfg.isTrack h = true → mirrored.env.lineAxis h ≠ some 7) ∧
    mirrored.env.epoch 2 = 2 ∧
    (mirrored.rules.get 1).armed = true ∧ (mirrored.cfg.rules.get 1).source = .line ∧
    (mirrored.cfg.rules.get 1).classes.getLsbD 1 = true ∧ (mirrored.cfg.rules.get 1).origin = some 3 ∧
    (mirrored.cfg.rules.get 1).hop = some 0 ∧ (mirrored.cfg.rules.get 1).gate = none ∧
    (∀ j, j ≠ 1 → (mirrored.cfg.rules.get j).classes.getLsbD 1 = false) := by decide +kernel

theorem witness_HoldInput :
    State.reset.held = true ∧ station.held = false ∧ station.holdIn.asserted = !true ∧ station.holdIn.asserted = false ∧
    station.holdIn.pending = none ∧ station.startup.status = .valid ∧ station.run = true ∧
    ({ station with holdIn := ⟨false, true, none⟩ } : State).run = false ∧ loading.startup.status ≠ .valid ∧
    ({ station with holdIn := ⟨false, false, some 20000⟩ } : State).holdIn.pending ≠ none := by decide +kernel

theorem station_hears : station.Hears := ⟨by decide +kernel, by decide +kernel, by decide +kernel, by decide +kernel⟩

theorem listening_hears : listening.Hears :=
  ⟨by decide +kernel, by decide +kernel, by decide +kernel, by decide +kernel⟩

theorem witness_ReceptionBeginsAndEnds :
    station.Hears ∧ listening.Hears ∧ (onBus station fun b => { b with rxd := false }).bus.rxd = false ∧
    station.bus.reception = .none ∧ judge (0xC3 :: List.replicate 5 0) = none ∧
    (∀ (h1 h2 l : Byte) rest, 0xC3 :: List.replicate 5 0 = 0xC3 :: h1 :: h2 :: l :: rest → l.toNat ≤ 120 →
      rest.length ≤ l.toNat + 2) ∧
    (onBus station fun b => { b with reception := .remains }).bus.reception = .remains ∧
    (onBus station fun b => { b with reception := .remains }).Hears := by
  refine ⟨station_hears, listening_hears, rfl, by decide +kernel, by decide +kernel, ?_, rfl,
    by decide +kernel, by decide +kernel, by decide +kernel, by decide +kernel⟩
  intro h1 h2 l rest h _
  have : rest = [0, 0] := by
    simp only [List.replicate, List.cons.injEq] at h
    exact h.2.2.2.2.symm
  subst this
  simp

theorem witness_DuplicateLocksOut :
    station.Hears ∧ station.bus.reception = .none ∧
    judge (frameFrom 7 false []) = some ⟨7, false, []⟩ ∧ (7 : Station) = station.bus.number ∧
    station.bus.station ≠ .lockedOut ∧
    (onBus station fun b => { b with station := .lockedOut }).bus.station = .lockedOut :=
  ⟨station_hears, by decide +kernel, by decide +kernel, by decide +kernel, by decide +kernel, rfl⟩

theorem station_lines : station.LinesSound := by unfold State.LinesSound Output.Shows; decide +kernel

theorem witness_AcceptedFrame :
    station.Hears ∧ station.bus.reception = .none ∧ judge (frameFrom 3 true []) = some ⟨3, true, []⟩ ∧
    (3 : Station) ≠ station.bus.number ∧ station.bus.station ≠ .listening ∧
    State.Missed (onBus mirrored fun b => { b with anchor := some 2 }) (some 2) 4 3 ∧
    station.LinesSound ∧ station.works.notices.counters.get 16 < 65535 :=
  ⟨station_hears, by decide +kernel, by decide +kernel, by decide +kernel, by decide +kernel,
    ⟨2, rfl, by decide +kernel, by decide +kernel, by decide +kernel, by decide +kernel⟩, station_lines,
    by decide +kernel⟩

theorem witness_JoinsTheRotation :
    listening.Hears ∧ listening.bus.station = .listening ∧ listening.bus.reception = .none ∧
    judge (frameFrom 3 false []) = some ⟨3, false, []⟩ ∧ (3 : Station) ≠ listening.bus.number ∧
    (3 : Station) ∈ (onBus listening fun b => { b with joined := [2, 3] }).bus.joined ∧
    listening.refreshLines.LinesSound :=
  ⟨listening_hears, by decide +kernel, by decide +kernel, by decide +kernel, by decide +kernel, by decide +kernel, by
    unfold State.LinesSound Output.Shows; decide +kernel⟩

theorem witness_ItemsApplied :
    station.Hears ∧ station.bus.reception = .none ∧ (judge report3).isSome = true ∧
    (judge report3).map (fun f => f.source) = some 3 ∧ (3 : Station) ≠ station.bus.number ∧
    station.bus.station ≠ .listening ∧ (0x27 : Byte).extractLsb' 0 5 = station.bus.number ∧
    listening.Hears ∧ listening.bus.station = .listening ∧
    (3 : Station) ∈ (onBus listening fun b => { b with joined := [2, 3] }).bus.joined ∧ station.Reaches 9 1 :=
  ⟨station_hears, by decide +kernel, by decide +kernel, by decide +kernel, by decide +kernel, by decide +kernel,
    by decide +kernel, listening_hears, by decide +kernel, by decide +kernel, by decide +kernel, by decide +kernel,
    fun x hx => absurd hx (by simp [station, State.reset])⟩

theorem witness_WaitExpiryStartsFrame :
    station.bus.station = .rotating ∧ station.bus.wait ≠ none ∧ station.bus.flight = none ∧ station.bus.rxd = true ∧
    listening.bus.station ≠ .rotating ∧ sending.bus.flight = some ⟨frameFrom 7 false [], 1, [(.queueFull, 2)]⟩ := by
  decide +kernel

theorem witness_OwnFrameIsAccepted : sending.TxSound := by
  refine ⟨by decide +kernel, by decide +kernel, ?_, ?_⟩
  · intro r hr
    have : r = restartResponse := by simpa [sending, onWorks] using hr
    subst this
    decide
  · intro n x hx
    exact absurd hx (by simp [sending, onWorks, onBus, station, State.reset])

theorem witness_FrameCompletes :
    let f : Flight := ⟨frameFrom 7 false [], 1, [(.queueFull, 2)]⟩
    sending.bus.flight = some f ∧ sending.restartDue f = false ∧ sending.bus.station = .rotating ∧
    (f.notes.map fun p => p.1).Nodup ∧ (NoticeKind.queueFull, 2) ∈ f.notes ∧
    sending.works.notices.counters.get 17 < 65535 ∧ sending.LinesSound := by
  unfold State.LinesSound Output.Shows
  decide +kernel

theorem witness_WarmRestart :
    let s : State := { sending with command := { sending.command with restartPending := true } }
    let f : Flight := ⟨frameFrom 7 false [], 1, [(.queueFull, 2)]⟩
    s.bus.flight = some f ∧ s.command.restartPending = true ∧ .rsp restartResponse ∈ s.works.txQueue.take f.taken ∧
    restartResponse.code = 0x0D ∧ restartResponse.result = .ok ∧ s.startup.status = .valid := by decide +kernel

theorem witness_AbortKeepsItems :
    sending.bus.flight ≠ none ∧ station.bus.flight = none ∧ (10 % 10 = 0 ∧ 10 ≠ 0) ∧ 19 % 10 ≠ 0 := by decide +kernel

theorem witness_FrameRoundTrip :
    let items : List Item := [⟨1, List.replicate 6 0⟩, ⟨15, List.replicate 15 0xFF⟩]
    items.length ≤ 8 ∧ (∀ i ∈ items, i.kind < 16 ∧ i.body.length ≤ 15) ∧
    (items.flatMap fun i => itemBytes i.kind i.body).length ≤ 120 := by decide +kernel

theorem witness_AxisItemChecked :
    station.startup.status = .valid ∧ loading.startup.status ≠ .valid ∧ (6 : BitVec 6).toNat / 2 = (3 : Station).toNat ∧
    (8 : BitVec 6).toNat / 2 ≠ (3 : Station).toNat ∧ (∀ i, (station.cfg.mirrors.get i).lineAxis ≠ some 7) ∧
    (station.cfg.mirrors.get 0).lineAxis = some 6 ∧
    (∀ j, (station.cfg.mirrors.get j).lineAxis = some 6 → j = 0) ∧ (station.cfg.mirrors.get 0).kind = .track ∧
    AxisKind.ring ≠ (station.cfg.mirrors.get 0).kind := by decide +kernel

theorem witness_ReportApplied :
    (mirrored.mirrors.get 0).state = .active ∧ (mirrored.mirrors.get 1).state = .unseen ∧
    moveOf (mirrored.cfg.geometry (mirrorHandle 0)) 10000 12000 = some ⟨10000, 12000, .fwd, 2000⟩ ∧
    moveOf (mirrored.cfg.geometry (mirrorHandle 0)) 10000 12001 = some ⟨10000, 12001, .fwd, 2001⟩ ∧
    mirrored.cfg.jumpLimit = 2000 ∧ mirrored.works.notices.counters.get 4 ≤ 65535 ∧
    mirrored.works.notices.counters.get 6 ≤ 65535 ∧ (levels false false .faulted).env.active 0 = false ∧
    ((levels false false .faulted).cfg.windows.get 0).handle = some 0 := by decide +kernel

/-- Station 9 may command the station, with an id its record does not hold. -/
theorem nine_executes : station.Executes 9 1 where
  rotating := by decide +kernel
  place := by decide +kernel
  fresh := by
    intro x hx
    exact absurd hx (by simp [station, State.reset])
  valid := by decide +kernel
  permitted := by decide +kernel

theorem witness_CommandTaken :
    console (.restart 9 1) = some (9, 1) ∧ listening.bus.station ≠ .rotating ∧ station.bus.station = .rotating ∧
    station.Reaches 9 1 ∧
    4 ≤ (onWorks station fun w =>
      { w with txQueue := List.replicate 4 (.rsp restartResponse) }).works.responsesHeld ∧
    ({ station.command with cache := station.command.cache.put 9 (some ⟨1, restartResponse⟩) } : CommandUnit).cache.get 9 =
      some ⟨1, restartResponse⟩ :=
  ⟨by decide, by decide +kernel, by decide +kernel, nine_executes.toReaches, by decide +kernel, by decide +kernel⟩

/-- The station in the degraded manner of R192. -/
def degraded : State := { station with startup := ⟨.invalid, 3, 1⟩ }

theorem witness_CommandRefused :
    console (.restart 4 1) = some (4, 1) ∧ station.startup.status = .valid ∧ station.cfg.console.getLsbD 4 = false ∧
    station.Reaches 4 1 ∧ degraded.Reaches 4 1 ∧ degraded.startup.status ≠ .valid ∧
    (∀ page handle, Instr.restart 4 1 ≠ .readStatus 4 1 page handle) ∧
    (∀ code, Instr.restart 4 1 ≠ .unknownCommand 4 1 code) ∧ 13 < (14 : Byte).toNat := by
  refine ⟨by decide, by decide +kernel, by decide +kernel, ?_, ?_, by decide +kernel, ?_, ?_, by decide⟩
  · exact ⟨by decide +kernel, by decide +kernel, fun x hx => absurd hx (by simp [station, State.reset])⟩
  · exact ⟨by decide +kernel, by decide +kernel, fun x hx => absurd hx (by simp [degraded, station, State.reset])⟩
  · intro page handle h; cases h
  · intro code h; cases h

theorem witness_ReadStatusAnswers :
    station.Reaches 9 1 ∧ station.startup.status = .valid ∧ station.cfg.console.getLsbD (9 : Station).toNat = true ∧
    degraded.Reaches 9 1 ∧ degraded.startup.status = .invalid ∧ (6 : Byte).toNat ≤ 6 ∧ 6 < (7 : Byte).toNat := by
  refine ⟨nine_executes.toReaches, by decide +kernel, by decide +kernel, ?_, by decide +kernel, by decide, by decide⟩
  exact ⟨by decide +kernel, by decide +kernel, fun x hx => absurd hx (by simp [degraded, station, State.reset])⟩

theorem queued_executes : queued.Executes 9 1 where
  rotating := by decide +kernel
  place := by decide +kernel
  fresh := by
    intro x hx
    exact absurd hx (by simp [queued, onWorks, station, State.reset])
  valid := by decide +kernel
  permitted := by decide +kernel

theorem witness_ReadQueueAnswers :
    queued.Executes 9 1 ∧ (queued.works.queues.get 0)[(1 : Byte).toNat]? = some (entry 501 5) ∧
    (queued.works.queues.get 0).length ≤ (2 : Byte).toNat :=
  ⟨queued_executes, by decide +kernel, by decide +kernel⟩

theorem witness_RingCommands :
    station.Executes 9 1 ∧ (station.cfg.rings.get 0).handle = some 0 ∧
    (2 : Byte).toNat < (station.cfg.rings.get 0).entries.length ∧
    (station.cfg.rings.get 0).entries.length ≤ (3 : Byte).toNat ∧ (station.cfg.geometry 0).kind ≠ .ring ∧
    (station.cfg.rings.get 1).handle = none :=
  ⟨nine_executes, by decide +kernel, by decide +kernel, by decide +kernel, by decide +kernel, by decide +kernel⟩

theorem witness_RuleCommands :
    station.Executes 9 1 ∧ (0x40000000 : BitVec 32).toInt = 1073741824 ∧ (0xC0000000 : BitVec 32).toInt = -1073741824 ∧
    1073741824 < (0x40000001 : BitVec 32).toInt ∧ ((7 : Fin 8).val = (7 : Byte).toNat) :=
  ⟨nine_executes, by decide +kernel, by decide +kernel, by decide +kernel, by decide +kernel⟩

theorem witness_TrimWindowSets :
    station.Executes 9 1 ∧ (station.cfg.windows.get 0).handle = some 0 ∧ (station.cfg.geometry 0).kind = .track ∧
    0 ≤ signedDifference 0x7FFFFFFF 0 ∧ ¬0 ≤ signedDifference 0x80000000 0 ∧
    (station.cfg.windows.get 1).handle = some 1 ∧ (station.cfg.geometry 1).kind = .ring ∧
    (49 : Pos).toNat < (station.cfg.geometry 1).modulus ∧ ¬(50 : Pos).toNat < (station.cfg.geometry 1).modulus :=
  ⟨nine_executes, by decide +kernel, by decide +kernel, by decide +kernel, by decide +kernel, by decide +kernel,
    by decide +kernel, by decide +kernel, by decide +kernel⟩

theorem witness_OriginCommands :
    station.Executes 9 1 ∧ (station.cfg.axes.get 1).mode ≠ .off ∧ (49 : BitVec 32).toNat < (station.cfg.axes.get 1).modulus ∧
    ¬(50 : BitVec 32).toNat < (station.cfg.axes.get 1).modulus ∧ (Settings.unconfigured.axes.get 0).mode = .off :=
  ⟨nine_executes, by decide +kernel, by decide +kernel, by decide +kernel, by decide +kernel⟩

theorem witness_InjectEntryOffers :
    station.Executes 9 1 ∧ (station.cfg.axes.get 0).kind = .track ∧ (station.cfg.mirrors.get 0).lineAxis ≠ none ∧
    (station.cfg.outputs.get 3).mode = .action ∧ (station.cfg.axes.get 1).kind ≠ .track :=
  ⟨nine_executes, by decide +kernel, by decide +kernel, by decide +kernel, by decide +kernel⟩

theorem witness_ClearsAndRestart : queued.Executes 9 1 ∧ (7 : Handle).val = (7 : Byte).toNat ∧ 8 ≤ (8 : Byte).toNat := by
  exact ⟨queued_executes, by decide, by decide⟩

theorem witness_PulseOutputPulses :
    station.Executes 9 1 ∧ (1 : BitVec 16) ≠ 0 ∧ (station.cfg.outputs.get 3).mode = .action ∧
    (station.works.outputs.get 3).condition = .normal ∧ (station.cfg.outputs.get 7).mode = .window :=
  ⟨nine_executes, by decide, by decide +kernel, by decide +kernel, by decide +kernel⟩

theorem witness_RaisingCounts :
    (∀ j, Notices.clear.counters.get j ≤ 65535) ∧ ∀ j, Notices.clear.pending.get j ≤ 255 := by decide +kernel

/-- A station with entries, a mirror in use and a command that waits. -/
def busy : State :=
  { mirrored with
    pending := [.quad4Edge 0 true false]
    works := { mirrored.works with queues := mirrored.works.queues.put 0 [entry 500 1, entry 501 5] } }

theorem witness_StepKeepsBounds : busy.CountsInRange ∧ busy.TxSound ∧ ∃ t, step busy = .next t := by
  refine ⟨by unfold State.CountsInRange; decide +kernel, ⟨by decide +kernel, by decide +kernel, ?_, ?_⟩, ⟨_, rfl⟩⟩
  · intro r hr
    exact absurd hr (by simp [busy, mirrored, station, State.reset])
  · intro n x hx
    exact absurd hx (by simp [busy, mirrored, station, State.reset])

theorem witness_StepKeepsQueue : busy.QueueSound ∧ ∃ t, step busy = .next t :=
  ⟨by unfold State.QueueSound; decide +kernel, _, rfl⟩

theorem witness_StepKeepsCams : busy.RingsSound ∧ busy.WindowsSound ∧ ∃ t, step busy = .next t :=
  ⟨by unfold State.RingsSound; decide +kernel, by unfold State.WindowsSound; decide +kernel, _, rfl⟩

theorem witness_StepKeepsLines : busy.LinesSound ∧ ∃ t, step busy = .next t :=
  ⟨by unfold State.LinesSound Output.Shows; decide +kernel, _, rfl⟩

theorem witness_StepKeepsRoster : busy.OwnEntrySound ∧ busy.MirrorsSound ∧ ∃ t, step busy = .next t := by
  have subscribed : ∀ i id, (busy.cfg.mirrors.get i).lineAxis = some id → id = 6 := by
    intro i id h
    have : ∀ i, (busy.cfg.mirrors.get i).lineAxis = none ∨ (busy.cfg.mirrors.get i).lineAxis = some 6 := by decide +kernel
    rcases this i with e | e <;> rw [e] at h <;> simp_all
  refine ⟨by unfold State.OwnEntrySound; decide +kernel, ⟨?_, ?_, ?_⟩, _, rfl⟩
  · intro i id h
    rw [subscribed i id h]
    decide +kernel
  · intro h
    exact absurd h (by decide +kernel)
  · intro i hi
    have : ∀ i, (busy.mirrors.get i).state = .active → (busy.cfg.mirrors.get i).lineAxis = some 6 := by decide +kernel
    exact ⟨6, this i hi, by decide +kernel⟩

theorem witness_StepKeepsEntriesAhead : busy.EntriesAhead ∧ ∃ t, step busy = .next t :=
  ⟨by unfold State.EntriesAhead; decide +kernel, _, rfl⟩

end Sys2Proof.Tests
end

section
/-! Local axes (chapter 1): what the events they deliver leave of every consumer, and the statements about samples, counts,
origin events and origin commands. -/

namespace Sys2Proof.Machine

/-! ### The rows of the encoders and of the origin commands -/

section Rows

variable (s : State) (i : Fin 2) (a b : Bool) (requester : Station) (tid handle : Byte) (value : BitVec 32)

theorem exec_quad4Edge : exec (.quad4Edge i a b) s = .next (s.sampleAB i a b) := rfl
theorem exec_pulseDirEdge : exec (.pulseDirEdge i a b) s = .next (s.sampleAB i a b) := rfl
theorem exec_upDownEdge : exec (.upDownEdge i a b) s = .next (s.sampleAB i a b) := rfl
theorem exec_risingZEdge : exec (.risingZEdge i a) s = .next (s.sampleZ i a) := rfl
theorem exec_setOrigin : exec (.setOrigin requester tid handle value) s =
    .next (s.takeCommand requester tid (.setOrigin handle value)) := rfl
theorem exec_armIndex : exec (.armIndex requester tid handle value) s =
    .next (s.takeCommand requester tid (.armIndex handle value)) := rfl
theorem exec_armIndexCancel : exec (.armIndexCancel requester tid handle) s =
    .next (s.takeCommand requester tid (.armIndexCancel handle)) := rfl

end Rows

/-! ### Local handles -/

@[simp] theorem axisRef_localHandle (i : Fin 2) : axisRef (localHandle i) = .loc i := by
  unfold axisRef localHandle
  exact dif_pos i.isLt

@[simp] theorem Settings.geometry_localHandle (cfg : Settings) (i : Fin 2) :
    cfg.geometry (localHandle i) = ⟨(cfg.axes.get i).kind, (cfg.axes.get i).modulus⟩ := by
  simp [Settings.geometry]

@[simp] theorem Env.active_localHandle (env : Env) (i : Fin 2) :
    env.active (localHandle i) = decide ((env.axes.get i).state = .active) := by
  simp [Env.active]

/-! ### The notice unit -/

/-- A raising counts its own kind, and no other counter moves. -/
theorem Notices.raise_counters (x : Notices) (mask : BitVec 16) (k : NoticeKind) (j : Fin 19) :
    (x.raise mask k).counters.get j = if k.counter = j then countUp (x.counters.get k.counter) else x.counters.get j := by
  unfold Notices.raise
  dsimp only
  split <;> simp only [Notices.count, Bank.get_put]

theorem Notices.raised_succ (x : Notices) (mask : BitVec 16) (k : NoticeKind) (n : Nat) :
    x.raised mask k (n + 1) = (x.raise mask k).raised mask k n := rfl

theorem Notices.raised_counters_ne (x : Notices) (mask : BitVec 16) (k : NoticeKind) (n : Nat) {j : Fin 19}
    (hj : j ≠ k.counter) : (x.raised mask k n).counters.get j = x.counters.get j := by
  induction n generalizing x with
  | zero => rfl
  | succ n ih => rw [Notices.raised_succ, ih, Notices.raise_counters, if_neg hj.symm]

/-- A counter in its range advances by one with each raising of its kind, up to 65535 (R195). -/
theorem Notices.raised_counters_self (x : Notices) (mask : BitVec 16) (k : NoticeKind) (n : Nat)
    (hx : x.counters.get k.counter ≤ 65535) :
    (x.raised mask k n).counters.get k.counter = min 65535 (x.counters.get k.counter + n) := by
  induction n generalizing x with
  | zero => exact (Nat.min_eq_right hx).symm
  | succ n ih =>
    have one : (x.raise mask k).counters.get k.counter = min 65535 (x.counters.get k.counter + 1) := by
      rw [Notices.raise_counters, if_pos rfl, countUp]
    rw [Notices.raised_succ, ih _ (by omega), one]
    omega

/-! ### The consumer blocks, one by one -/

section Consumers

variable (w : Works) (env : Env) (h : Handle) (m : Move)

/-- Missed entries leave their list, and each raises MISSED. -/
theorem Works.removeMissed_eq (gone : Entry → Bool) :
    w.removeMissed env h gone = { w with
      queues := w.queues.put h ((w.queues.get h).filter fun e => !gone e)
      notices := w.notices.raised env.cfg.noticeMask .missed ((w.queues.get h).filter gone).length } := by
  simp only [Works.removeMissed, Works.raiseTimes_eq, List.countP_eq_length_filter]

/-- The entries that a silent passage takes (R36): the crossed ones forward, those carried out of range backward. -/
def passageTakes (g : Geometry) (m : Move) (e : Entry) : Bool :=
  if m.dir = .fwd then crosses g m e.due else e.overrun m

theorem Works.queuePassage_eq : w.queuePassage env h m = w.removeMissed env h (passageTakes (env.cfg.geometry h) m) := by
  unfold Works.queuePassage
  cases e : m.dir
  · have : passageTakes (env.cfg.geometry h) m = fun e => crosses (env.cfg.geometry h) m e.due := by
      funext x; simp [passageTakes, e]
    rw [this]
  · have : passageTakes (env.cfg.geometry h) m = Entry.overrun m := by
      funext x; simp [passageTakes, e]
    rw [this]

/-- An epoch change empties the handle's list, and each entry raises EPOCH_DISCARD. -/
theorem Works.queueEpoch_eq :
    w.queueEpoch env h = { w with
      queues := w.queues.put h []
      notices := w.notices.raised env.cfg.noticeMask .epochDiscard (w.queues.get h).length } := by
  simp only [Works.queueEpoch, Works.raiseTimes_eq]

/-- What ring `r`, standing at `x`, is once it has taken a move of handle `h` (R70, R71). -/
def ringAfter (r : Fin 4) (x : Ring) : Ring :=
  let set := env.cfg.rings.get r
  if decide (set.handle = some h) && x.armed && env.active h then
    { x with pointer := (walkRing set.entries x.positions (env.cfg.geometry h) m set.entries.length x.pointer).1 }
  else x

theorem Works.ringMove_eq (r : Fin 4) :
    w.ringMove env h m r = { w with rings := w.rings.put r (ringAfter env h m r (w.rings.get r)) } := by
  unfold Works.ringMove ringAfter Works.ringEvaluates
  dsimp only
  split
  · rfl
  · rw [Bank.get_put_eq]

/-- The rings of a list without repeats take a move, each once. -/
theorem Works.ringMoves_rings (l : List (Fin 4)) (hl : l.Nodup) (r : Fin 4) :
    (l.foldl (fun w k => w.ringMove env h m k) w).rings.get r =
      if r ∈ l then ringAfter env h m r (w.rings.get r) else w.rings.get r := by
  induction l generalizing w with
  | nil => simp
  | cons k ks ih =>
    obtain ⟨hk, hks⟩ := List.nodup_cons.mp hl
    rw [List.foldl_cons, ih _ hks, Works.ringMove_eq]
    by_cases e : k = r
    · subst e
      simp [hk]
    · simp [e, Ne.symm e]

theorem Works.ringsMove_eq : w.ringsMove env h m = { w with rings := w.rings.change (ringAfter env h m) } := by
  have rings : (w.ringsMove env h m).rings = w.rings.change (ringAfter env h m) := by
    apply Bank.ext_get
    intro r
    rw [Bank.get_change, Works.ringsMove, Works.ringMoves_rings _ _ _ _ _ (List.nodup_finRange 4),
      if_pos (List.mem_finRange r)]
  have frame := w.ringsMove_frame env h m
  unfold RingsOnly at frame
  rw [frame, rings]

/-! ### What the recomputing of the windows keeps -/

/-- The recomputing of the windows, as the frame of `recomputeOn` gives it. -/
theorem Works.recomputeOn_eq :
    w.recomputeOn env h =
      { w with windows := (w.recomputeOn env h).windows, outputs := (w.recomputeOn env h).outputs } :=
  w.recomputeOn_frame env h

@[simp] theorem Works.recomputeOn_queues : (w.recomputeOn env h).queues = w.queues := by rw [w.recomputeOn_eq env h]
@[simp] theorem Works.recomputeOn_sensors : (w.recomputeOn env h).sensors = w.sensors := by rw [w.recomputeOn_eq env h]
@[simp] theorem Works.recomputeOn_rings : (w.recomputeOn env h).rings = w.rings := by rw [w.recomputeOn_eq env h]
@[simp] theorem Works.recomputeOn_txQueue : (w.recomputeOn env h).txQueue = w.txQueue := by rw [w.recomputeOn_eq env h]
@[simp] theorem Works.recomputeOn_notices : (w.recomputeOn env h).notices = w.notices := by rw [w.recomputeOn_eq env h]

/-- The flag that a recomputed window shows. -/
theorem Works.WindowsFollow.flag {w t : Works} {env : Env} {h : Handle} {lines : Bank Output 8}
    (f : w.WindowsFollow env h lines t) (k : Fin 8) :
    (t.windows.get k).flag =
      if (env.cfg.windows.get k).handle = some h then w.windowFlag env k else (w.windows.get k).flag := by
  rw [f.1 k]
  split <;> rfl

/-- The flag that a window has from its axis rests on bounds that recomputing keeps. -/
theorem Works.WindowsFollow.windowFlag {w t : Works} {env : Env} {h : Handle} {lines : Bank Output 8}
    (f : w.WindowsFollow env h lines t) (k : Fin 8) : t.windowFlag env k = w.windowFlag env k := by
  have bounds : (t.windows.get k).lower = (w.windows.get k).lower ∧ (t.windows.get k).upper = (w.windows.get k).upper := by
    rw [f.1 k]
    split <;> exact ⟨rfl, rfl⟩
  simp only [Works.windowFlag, bounds]

/-- An ACTION line follows no window. -/
theorem Works.WindowsFollow.action_line {w t : Works} {env : Env} {h : Handle} {lines : Bank Output 8}
    (f : w.WindowsFollow env h lines t) {q : Fin 8} (hq : (env.cfg.outputs.get q).mode = .action) :
    t.outputs.get q = lines.get q :=
  (f.2 q).1 fun k c => by rw [hq] at c; exact absurd c.1 (by decide)

/-- A flag that is handed to a line leaves its pulse. -/
theorem Works.WindowsFollow.pulse {w t : Works} {env : Env} {h : Handle} {lines : Bank Output 8}
    (f : w.WindowsFollow env h lines t) (q : Fin 8) : (t.outputs.get q).pulse = (lines.get q).pulse := by
  obtain ⟨stay, follow⟩ := f.2 q
  by_cases c : ∃ k, (env.cfg.outputs.get q).mode = .window ∧ (env.cfg.outputs.get q).followed = some k ∧
      (env.cfg.windows.get k).handle = some h ∧ w.windowFlag env k ≠ (w.windows.get k).flag
  · obtain ⟨k, hk⟩ := c
    rw [follow k hk]
  · rw [stay (not_exists.mp c)]

/-- A window on an axis that is not ACTIVE reads 0 (R80). -/
theorem Works.windowFlag_not_active {w : Works} {env : Env} {h : Handle} {k : Fin 8}
    (on : (env.cfg.windows.get k).handle = some h) (off : env.active h = false) : w.windowFlag env k = false := by
  simp [Works.windowFlag, on, off]

/-! ### Distance pulses that are released -/

/-- A distance pulse on the handle whose release position is named ends. -/
theorem releasedOn_ended {h : Handle} {ends : Pos → Bool} {lines : Bank Output 8} {q : Fin 8} {p : Pos}
    (hp : (lines.get q).pulse = .distance h p) (he : ends p = true) :
    (releasedOn h ends lines).get q = { lines.get q with level := false, pulse := .idle } := by
  simp [releasedOn, hp, he]

/-- Every other line stays. -/
theorem releasedOn_kept {h : Handle} {ends : Pos → Bool} {lines : Bank Output 8} {q : Fin 8}
    (hp : ∀ p, (lines.get q).pulse = .distance h p → ends p = false) :
    (releasedOn h ends lines).get q = lines.get q := by
  simp only [releasedOn, Bank.get_tabulate]
  split
  · rename_i h' p e
    rw [if_neg]
    rintro ⟨rfl, he⟩
    simp [hp p e] at he
  · rfl

/-! ### The events a handle delivers -/

/-- The blocks once a silent passage has reached them all but the windows. -/
def Works.passed : Works :=
  { w with
    outputs := releasedOn h (fun p => decide (m.dir = .fwd) && crosses (env.cfg.geometry h) m p) w.outputs
    sensors := (w.lockoutsMove env h m).sensors
    queues := w.queues.put h ((w.queues.get h).filter fun e => !passageTakes (env.cfg.geometry h) m e)
    notices := w.notices.raised env.cfg.noticeMask .missed
      ((w.queues.get h).filter (passageTakes (env.cfg.geometry h) m)).length
    rings := w.rings.change (ringAfter env h m) }

theorem Works.silentPassage_eq : w.silentPassage env h m = (w.passed env h m).recomputeOn env h := by
  unfold Works.silentPassage
  rw [Works.ringsMove_eq, Works.queuePassage_eq, Works.removeMissed_eq, Works.releaseCrossed_eq]
  rfl

/-- The blocks once an epoch change has reached them all but the windows. -/
def Works.renewed : Works :=
  { w with
    outputs := releasedOn h (fun _ => true) w.outputs
    sensors := (w.lockoutsEnd env h).sensors
    queues := w.queues.put h []
    notices := w.notices.raised env.cfg.noticeMask .epochDiscard (w.queues.get h).length
    rings := (w.ringsEpoch env h).rings }

theorem Works.epochChange_eq : w.epochChange env h = (w.renewed env h).recomputeOn env h := by
  unfold Works.epochChange
  rw [Works.queueEpoch_eq, Works.releaseLost_eq]
  rfl

/-- The blocks once an encoder fault has reached them all but the windows. -/
def Works.faulted : Works :=
  { w with
    outputs := releasedOn h (fun _ => true) w.outputs
    notices := w.notices.raise env.cfg.noticeMask .encoderFault }

theorem Works.stopsBeingActive_eq :
    w.stopsBeingActive env h = Works.recomputeOn { w with outputs := releasedOn h (fun _ => true) w.outputs } env h := by
  unfold Works.stopsBeingActive
  rw [Works.releaseLost_eq]

end Consumers

/-- Settles O15: the passage reaches every block but the windows at once (`Works.passed`), and then the windows recompute. -/
theorem silentPassage : Obligations.SilentPassage := by
  intro w env h m t gone ends
  have eq : t = (w.passed env h m).recomputeOn env h := w.silentPassage_eq env h m
  have notices : t.notices = w.notices.raised env.cfg.noticeMask .missed ((w.queues.get h).filter gone).length := by
    rw [eq, Works.recomputeOn_notices]; rfl
  have queues : t.queues = w.queues.put h ((w.queues.get h).filter fun e => !gone e) := by
    rw [eq, Works.recomputeOn_queues]; rfl
  have follow : w.WindowsFollow env h (releasedOn h ends w.outputs) t := by
    rw [eq]; exact (w.passed env h m).recomputeOn_follow env h
  refine ⟨?frame, fun k hk => ?others, fun k => ?lockouts, follow, ?tags, fun h' ne => ?lists, ?list, fun range => ?missed,
    fun r => ?rings, fun q action => ⟨fun p pulse fwd crossed => ?ends, fun none => ?stays⟩⟩
  case frame => rw [eq, Works.recomputeOn_eq]; rfl
  case others => rw [notices, Notices.raised_counters_ne _ _ .missed _ hk]
  case lockouts => rw [eq, Works.recomputeOn_sensors]; exact Bank.get_change ..
  case tags => rw [eq, Works.recomputeOn_txQueue]; rfl
  case lists => rw [queues, Bank.get_put_ne _ _ ne.symm]
  case list => rw [queues, Bank.get_put_self]
  case missed => rw [notices]; exact Notices.raised_counters_self _ _ .missed _ range
  case rings =>
    rw [eq, Works.recomputeOn_rings]
    simp [Works.passed, ringAfter, Works.ringWalk, and_assoc]
  case ends => rw [follow.action_line action, releasedOn_ended pulse (by simp [ends, fwd, crossed])]
  case stays =>
    rw [follow.action_line action, releasedOn_kept]
    intro p pulse
    rcases none p pulse with rev | apart
    · simp [ends, rev]
    · simp [ends, apart]

/-! ### Lines that come under the condition of the station -/

/-- Whatever the condition is, each line stays or comes under it with its pulse IDLE. -/
theorem State.LinesTake.comes {t : State} {lines : Bank Output 8} (f : t.LinesTake lines) (q : Fin 8) :
    ∃ c level, t.works.outputs.get q =
      if (lines.get q).condition = c then lines.get q
      else { lines.get q with condition := c, level := level, pulse := .idle } := by
  obtain ⟨released, forced, normal⟩ := f q
  by_cases valid : t.startup.status = .valid
  · cases run : t.run
    · exact ⟨_, _, forced valid run⟩
    · exact ⟨_, _, normal valid run⟩
  · exact ⟨_, _, released valid⟩

/-- No pulse begins when a line comes under a condition. -/
theorem State.LinesTake.idle {t : State} {lines : Bank Output 8} (f : t.LinesTake lines) {q : Fin 8}
    (idle : (lines.get q).pulse = .idle) : (t.works.outputs.get q).pulse = .idle := by
  obtain ⟨c, level, e⟩ := f.comes q
  rw [e]
  split
  · exact idle
  · rfl

/-- In HOLD every line of a valid station is FORCED (R88). -/
theorem State.LinesTake.forced {t : State} {lines : Bank Output 8} (f : t.LinesTake lines)
    (valid : t.startup.status = .valid) (hold : t.run = false) (q : Fin 8) :
    (t.works.outputs.get q).condition = .forced := by
  obtain ⟨-, forced, -⟩ := f q
  rw [forced valid hold]
  split
  · assumption
  · rfl

/-! ### An event of a local axis that may change the line state -/

/-- `s` with `w` what an event of handle `h` has made of the consumer blocks: then the windows on `h` recompute and every line
takes the condition of the station. -/
def State.delivered (s : State) (h : Handle) (w : Works) : State := (s.withWorks (w.recomputeOn s.env h)).refreshLines

section Delivered

variable (s : State) (h : Handle) (w : Works)

theorem State.delivered_queues : (s.delivered h w).works.queues = w.queues := w.recomputeOn_queues s.env h
theorem State.delivered_sensors : (s.delivered h w).works.sensors = w.sensors := w.recomputeOn_sensors s.env h
theorem State.delivered_rings : (s.delivered h w).works.rings = w.rings := w.recomputeOn_rings s.env h
theorem State.delivered_txQueue : (s.delivered h w).works.txQueue = w.txQueue := w.recomputeOn_txQueue s.env h
theorem State.delivered_notices : (s.delivered h w).works.notices = w.notices := w.recomputeOn_notices s.env h

theorem State.delivered_takes : (s.delivered h w).LinesTake (w.recomputeOn s.env h).outputs :=
  State.refreshLines_takes (s.withWorks (w.recomputeOn s.env h))

/-- The windows and the lines after the event, from the blocks `v` before it, whose windows it has left to recompute. -/
theorem State.delivered_follow {v : Works} (same : w.windows = v.windows) :
    ∃ u, v.WindowsFollow (s.delivered h w).env h w.outputs u ∧ (s.delivered h w).works.windows = u.windows ∧
      (s.delivered h w).LinesTake u.outputs := by
  refine ⟨w.recomputeOn s.env h, ?_, rfl, s.delivered_takes h w⟩
  have follow := w.recomputeOn_follow s.env h
  simp only [Works.WindowsFollow, Works.windowFlag, same] at follow ⊢
  exact follow

/-- The flag of a window after the event, as the statements give it. -/
theorem State.delivered_flag (k : Fin 8) :
    ((s.delivered h w).works.windows.get k).flag =
      if (s.cfg.windows.get k).handle = some h then w.windowFlag s.env k else (w.windows.get k).flag :=
  (w.recomputeOn_follow s.env h).flag k

/-- Recomputing keeps what a window's flag is computed from. -/
theorem State.delivered_windowFlag (k : Fin 8) :
    (s.delivered h w).works.windowFlag (s.delivered h w).env k = w.windowFlag s.env k :=
  (w.recomputeOn_follow s.env h).windowFlag k

/-- When the event has left the axis not ACTIVE, its windows read 0. -/
theorem State.delivered_flag_not_active {s : State} {h : Handle} (off : s.env.active h = false) (w : Works) (k : Fin 8) :
    ((s.delivered h w).works.windows.get k).flag =
      if (s.cfg.windows.get k).handle = some h then false else (w.windows.get k).flag := by
  rw [State.delivered_flag]
  split
  · rename_i on
    exact Works.windowFlag_not_active on off
  · rfl

end Delivered

/-! ### Local axis faults -/

/-- An axis that is FAULTED is the local axis fault (R18). -/
theorem State.axisFault_of_faulted {s : State} {i : Fin 2} (e : (s.axes.get i).state = .faulted) : s.axisFault = true := by
  unfold State.axisFault
  match i with
  | 0 => simp [e]
  | 1 => simp [e]

/-- The local axis fault rests on the axis states alone. -/
theorem State.withAxis_axisFault {s : State} {i : Fin 2} {x : LocalAxis} (e : x.state = (s.axes.get i).state) :
    (s.withAxis i x).axisFault = s.axisFault := by
  have states (j : Fin 2) : ((s.withAxis i x).axes.get j).state = (s.axes.get j).state := by
    rw [State.withAxis_axes, Bank.get_put]
    split
    · rename_i ij; rw [e, ij]
    · rfl
  simp only [State.axisFault, states]

theorem State.withAxis_run {s : State} {i : Fin 2} {x : LocalAxis} (e : x.state = (s.axes.get i).state) :
    (s.withAxis i x).run = s.run := by
  have fault := State.withAxis_axisFault e
  simp only [State.run, State.ownHold, State.causeFault, fault]
  rfl

theorem State.withAxis_env {s : State} {i : Fin 2} {x : LocalAxis} (e : x.state = (s.axes.get i).state) :
    (s.withAxis i x).env = { s.env with axes := s.axes.put i x } := by
  simp only [State.env, State.withAxis_run e]; rfl

/-- The fault asserts FAULT_OUT_N of a device that is not held in reset (R100). -/
theorem State.faultOutN_of_fault {s : State} (fault : s.axisFault = true) (held : s.held = false) : s.faultOutN = false := by
  simp [State.faultOutN, State.faultOut, fault, held]

/-- With hold on local fault, the fault holds the line (R162, R164). -/
theorem State.run_of_fault {s : State} (hold : s.cfg.holdOnFault = true) (fault : s.axisFault = true) : s.run = false := by
  simp [State.run, State.ownHold, State.causeFault, hold, fault]

/-! ### Samples of A and B -/

/-- Of two settings of one axis the later stands. -/
theorem State.withAxis_withAxis (s : State) (i : Fin 2) (x y : LocalAxis) : (s.withAxis i x).withAxis i y = s.withAxis i y := by
  simp only [State.withAxis, Bank.put_put]

section Samples

variable {s : State} {i : Fin 2} (a b : Bool)

@[simp] theorem State.sampled_axis : (s.sampled i a b).axes.get i = { s.axes.get i with refA := a, refB := b } :=
  Bank.get_put_self ..

theorem State.sampleAB_not_active (e : (s.axes.get i).state ≠ .active) : s.sampleAB i a b = s.sampled i a b := if_neg e

theorem State.sampleAB_quad4 (e : (s.axes.get i).state = .active) (m : (s.cfg.axes.get i).mode = .quad4) :
    s.sampleAB i a b = (s.sampled i a b).quadSample i (s.axes.get i).refA (s.axes.get i).refB a b := by
  unfold State.sampleAB
  dsimp only
  rw [if_pos e, m]; rfl

theorem State.sampleAB_pulseDir (e : (s.axes.get i).state = .active) (m : (s.cfg.axes.get i).mode = .pulseDir) :
    s.sampleAB i a b = (s.sampled i a b).pulseDirSample i (s.axes.get i).refA a b := by
  unfold State.sampleAB
  dsimp only
  rw [if_pos e, m]; rfl

theorem State.sampleAB_upDown (e : (s.axes.get i).state = .active) (m : (s.cfg.axes.get i).mode = .upDown) :
    s.sampleAB i a b = (s.sampled i a b).upDownSample i (s.axes.get i).refA (s.axes.get i).refB a b := by
  unfold State.sampleAB
  dsimp only
  rw [if_pos e, m]; rfl

end Samples

/-! The table of R12, by the forward order of the pairs. -/

theorem quadDecode_same : ∀ a b, quadDecode a b a b = .none := by decide

theorem quadDecode_next : ∀ a b a' b', (a', b') = quadNext (a, b) → quadDecode a b a' b' = .count .fwd := by decide

theorem quadDecode_previous : ∀ a b a' b', (a, b) = quadNext (a', b') → quadDecode a b a' b' = .count .rev := by decide

theorem quadDecode_both : ∀ a b a' b', a' ≠ a → b' ≠ b → quadDecode a b a' b' = .fault := by decide

/-! ### Counts -/

section Counts

variable {s : State} {i : Fin 2}

/-- A count is applied to an ACTIVE axis. -/
theorem State.count_eq (e : (s.axes.get i).state = .active) (d : Direction) : s.count i d = s.counted i d := if_pos e

/-- The direction of a count after inversion (R15). -/
def Settings.countDirection (cfg : Settings) (i : Fin 2) (d : Direction) : Direction :=
  if (cfg.axes.get i).invert then opposite d else d

theorem State.counted_axes (d : Direction) :
    (s.counted i d).axes = s.axes.put i { s.axes.get i with
      position := stepPosition (s.cfg.geometry (localHandle i)) (s.cfg.countDirection i d) (s.axes.get i).position
      lastDirection := some (s.cfg.countDirection i d) } := by
  rw [Settings.geometry_localHandle]; rfl

theorem State.counted_cfg (d : Direction) : (s.counted i d).cfg = s.cfg := rfl

theorem State.counted_state (d : Direction) : ((s.counted i d).axes.get i).state = (s.axes.get i).state := by
  rw [State.counted_axes, Bank.get_put_self]

theorem State.counted_position (d : Direction) :
    ((s.counted i d).axes.get i).position =
      stepPosition (s.cfg.geometry (localHandle i)) (s.cfg.countDirection i d) (s.axes.get i).position := by
  rw [State.counted_axes, Bank.get_put_self]

/-- What a count delivers: the line state that the consumers read is that of the axis states, which a count keeps. -/
theorem State.counted_works (d : Direction) :
    (s.counted i d).works =
      s.works.positionEvent { s.env with axes := (s.counted i d).axes } (localHandle i)
        ⟨(s.axes.get i).position,
          stepPosition (s.cfg.geometry (localHandle i)) (s.cfg.countDirection i d) (s.axes.get i).position,
          s.cfg.countDirection i d, 1⟩ := by
  rw [Settings.geometry_localHandle]
  change s.works.positionEvent (s.withAxis i _).env _ _ = _
  rw [State.withAxis_env]
  all_goals rfl

/-- Two counts of an ACTIVE axis. -/
theorem State.count_count_eq (e : (s.axes.get i).state = .active) (d d' : Direction) :
    (s.count i d).count i d' = (s.counted i d).counted i d' := by
  rw [State.count_eq e, State.count_eq (by rw [State.counted_state, e])]

end Counts

theorem stepPosition_track {g : Geometry} (k : g.kind = .track) (d : Direction) (p : Pos) :
    stepPosition g d p = if d = .fwd then p + 1 else p - 1 := by
  cases d <;> simp [stepPosition, k]

/-- A step on a RING axis is a step modulo M (R4). -/
theorem stepPosition_ring_toNat {g : Geometry} (k : g.kind = .ring) (two : 2 ≤ g.modulus) (most : g.modulus ≤ 16777216)
    {p : Pos} (hp : p.toNat < g.modulus) (d : Direction) :
    (stepPosition g d p).toNat =
      if d = .fwd then (p.toNat + 1) % g.modulus else (p.toNat + g.modulus - 1) % g.modulus := by
  cases d with
  | fwd =>
    simp only [stepPosition, k, if_true]
    split
    · rename_i inside
      rw [Nat.mod_eq_of_lt inside, BitVec.toNat_add]
      simp; omega
    · have last : p.toNat + 1 = g.modulus := by omega
      simp [last]
  | rev =>
    simp only [stepPosition, k, reduceCtorEq, if_false]
    split
    · rename_i origin
      have zero : p.toNat = 0 := by simp [origin]
      rw [zero, BitVec.toNat_ofNat, Nat.zero_add, Nat.mod_eq_of_lt (by omega), Nat.mod_eq_of_lt (by omega)]
    · rename_i ne
      have pos : p.toNat ≠ 0 := fun z => ne (BitVec.eq_of_toNat_eq z)
      rw [BitVec.toNat_sub]
      have : p.toNat + g.modulus - 1 = p.toNat - 1 + g.modulus := by omega
      rw [this, Nat.add_mod_right, Nat.mod_eq_of_lt (by omega : p.toNat - 1 < g.modulus)]
      simp; omega

/-- A position that an axis can hold: on RING, a modulus in its range and a position below it (R1, R4). -/
def Geometry.Holds (g : Geometry) (p : Pos) : Prop :=
  g.kind = .track ∨ (2 ≤ g.modulus ∧ g.modulus ≤ 16777216 ∧ p.toNat < g.modulus)

/-- A step and a step back. -/
theorem stepPosition_opposite {g : Geometry} {p : Pos} (hp : g.Holds p) (d : Direction) :
    stepPosition g (opposite d) (stepPosition g d p) = p := by
  cases k : g.kind with
  | track => cases d <;> simp [stepPosition_track k, opposite]
  | ring =>
    obtain ⟨two, most, below⟩ := hp.resolve_left (by simp [k])
    have step := stepPosition_ring_toNat k two most below d
    have below' : (stepPosition g d p).toNat < g.modulus := by
      rw [step]; split <;> exact Nat.mod_lt _ (by omega)
    apply BitVec.eq_of_toNat_eq
    rw [stepPosition_ring_toNat k two most below', step]
    have round : (p.toNat + g.modulus) % g.modulus = p.toNat := by rw [Nat.add_mod_right, Nat.mod_eq_of_lt below]
    cases d with
    | fwd =>
      simp only [opposite, if_true, reduceCtorEq, if_false]
      rw [Nat.add_sub_assoc (by omega), Nat.mod_add_mod, show p.toNat + 1 + (g.modulus - 1) = p.toNat + g.modulus by omega,
        round]
    | rev =>
      simp only [opposite, if_true, reduceCtorEq, if_false]
      rw [Nat.mod_add_mod, show p.toNat + g.modulus - 1 + 1 = p.toNat + g.modulus by omega, round]

/-- A count and a count the other way leave the position (R13). -/
theorem State.counted_back {s : State} {i : Fin 2}
    (hp : (s.cfg.geometry (localHandle i)).Holds (s.axes.get i).position) (d : Direction) :
    (((s.counted i d).counted i (opposite d)).axes.get i).position = (s.axes.get i).position := by
  have back : s.cfg.countDirection i (opposite d) = opposite (s.cfg.countDirection i d) := by
    unfold Settings.countDirection
    split <;> rfl
  rw [State.counted_position, State.counted_position, State.counted_cfg, back, stepPosition_opposite hp]

/-- Settles O10: a count is its two axis fields and the position event; the arithmetic is that of `stepPosition`. -/
theorem countSteps : Obligations.CountSteps := by
  intro s i d x g d'
  exact ⟨stepPosition g d' x.position, State.counted_axes d, rfl, State.counted_works d,
    fun track => stepPosition_track track d' x.position,
    fun ring two most below => stepPosition_ring_toNat ring two most below d'⟩

section UpDown

variable {s : State} {i : Fin 2} {a b a' b' : Bool}

theorem State.upDownSample_none (up : ¬(a = false ∧ a' = true)) (down : ¬(b = false ∧ b' = true)) :
    s.upDownSample i a b a' b' = s := by
  simp [State.upDownSample, up, down]

theorem State.upDownSample_up (e : (s.axes.get i).state = .active) (up : a = false ∧ a' = true)
    (down : ¬(b = false ∧ b' = true)) : s.upDownSample i a b a' b' = s.counted i .fwd := by
  simp [State.upDownSample, up, down, State.count_eq e]

theorem State.upDownSample_down (e : (s.axes.get i).state = .active) (up : ¬(a = false ∧ a' = true))
    (down : b = false ∧ b' = true) : s.upDownSample i a b a' b' = s.counted i .rev := by
  simp [State.upDownSample, up, down, State.count_eq e]

/-- Both counts, the free value deciding which is the first (log entry 2). -/
theorem State.upDownSample_both (e : (s.axes.get i).state = .active) (up : a = false ∧ a' = true)
    (down : b = false ∧ b' = true) :
    let v := s.withWorks { s.works with choice := s.works.choice + 1 }
    s.upDownSample i a b a' b' =
      if Config.freeChoice s.works.choice % 2 = 0 then (v.counted i .fwd).counted i .rev
      else (v.counted i .rev).counted i .fwd := by
  intro v
  have active : (v.axes.get i).state = .active := e
  rw [← State.count_count_eq active, ← State.count_count_eq active]
  unfold State.upDownSample
  dsimp only
  rw [if_pos (by simp [up, down])]
  rfl

end UpDown

/-- Settles O9, by which of A and B rise; that two counts end where they began is `State.counted_back`, for either order. -/
theorem pulseSamples : Obligations.PulseSamples := by
  refine ⟨fun s i a b => ⟨fun mode active => ?pulseDir, fun other => ?pulseOff⟩, fun s i a b => ?upDown⟩
  case pulseOff => rw [exec_pulseDirEdge, State.sampleAB_not_active a b other]
  case pulseDir =>
    rw [exec_pulseDirEdge, State.sampleAB_pulseDir a b active mode, State.pulseDirSample,
      State.count_eq (by rw [State.sampled_axis, active])]
    simp only [Bool.and_eq_true, Bool.not_eq_true']
  case upDown =>
    intro x u v
    refine ⟨fun mode active => ?_, fun other => by rw [exec_upDownEdge, State.sampleAB_not_active a b other]⟩
    have ready : (u.axes.get i).state = .active := by rw [State.sampled_axis, active]
    rw [exec_upDownEdge, State.sampleAB_upDown a b active mode]
    refine ⟨fun up down => by rw [State.upDownSample_none up down],
      fun up down => by rw [State.upDownSample_up ready up down],
      fun up down => by rw [State.upDownSample_down ready up down], fun up down => ?_⟩
    have both := State.upDownSample_both ready up down
    refine ⟨?order, fun held => ⟨_, rfl, ?back⟩⟩
    case order =>
      rw [both]
      split
      · exact .inl rfl
      · exact .inr rfl
    case back =>
      have position : (v.axes.get i).position = x.position := by
        change (u.axes.get i).position = _
        rw [State.sampled_axis]
      have holds : (v.cfg.geometry (localHandle i)).Holds (v.axes.get i).position := by
        rw [position, Settings.geometry_localHandle]; exact held
      rw [both]
      split
      · exact (State.counted_back holds .fwd).trans position
      · exact (State.counted_back holds .rev).trans position

/-! ### Encoder faults and origin events -/

/-- An encoder fault (R14): the axis is FAULTED, ENCODER_FAULT is raised and the distance pulses on the handle are released, and
then the windows and the lines take the fault. -/
theorem State.encoderFault_eq (s : State) (i : Fin 2) :
    s.encoderFault i = (s.withAxis i { s.axes.get i with state := .faulted }).delivered (localHandle i)
      (s.works.faulted s.env (localHandle i)) := by
  unfold State.encoderFault State.stopsBeingActive
  rw [Works.stopsBeingActive_eq]
  rfl

/-- An origin event (R16): the axis stands at the value in a new epoch, the consumers take the epoch change, and then the windows
and the lines take the new state. -/
theorem State.originEvent_eq (s : State) (i : Fin 2) (v : Pos) :
    s.originEvent i v = (s.withAxis i { s.axes.get i with
        position := v, epoch := (s.axes.get i).epoch + 1, state := .active, lastDirection := none, arm := none }).delivered
      (localHandle i) (s.works.renewed s.env (localHandle i)) := by
  unfold State.originEvent State.epochChange
  dsimp only
  rw [Works.epochChange_eq]
  rfl

/-- A sample that is a count, on an ACTIVE axis. -/
theorem State.quadSample_count {s : State} {i : Fin 2} {a b a' b' : Bool} {d : Direction}
    (e : (s.axes.get i).state = .active) (c : quadDecode a b a' b' = .count d) :
    s.quadSample i a b a' b' = s.counted i d := by
  rw [State.quadSample, c]
  exact State.count_eq e d

/-- A sample in which A and B both change, on an ACTIVE QUAD4 axis, is an encoder fault. -/
theorem State.sampleAB_fault {s : State} {i : Fin 2} {a b : Bool} (e : (s.axes.get i).state = .active)
    (m : (s.cfg.axes.get i).mode = .quad4) (ha : a ≠ (s.axes.get i).refA) (hb : b ≠ (s.axes.get i).refB) :
    s.sampleAB i a b =
      (s.withAxis i { s.axes.get i with state := .faulted, refA := a, refB := b }).delivered (localHandle i)
        (s.works.faulted s.env (localHandle i)) := by
  have axis : (s.sampled i a b).withAxis i { (s.sampled i a b).axes.get i with state := .faulted } =
      s.withAxis i { s.axes.get i with state := .faulted, refA := a, refB := b } := by
    rw [State.sampled_axis, State.sampled, State.withAxis_withAxis]
  rw [State.sampleAB_quad4 a b e m, State.quadSample, quadDecode_both _ _ _ _ ha hb]
  dsimp only
  rw [State.encoderFault_eq, axis]
  rfl

/-- Settles O8, by what the sample is in the table of R12; the fault is an event of the handle (`State.delivered`) that leaves the
axis not ACTIVE. -/
theorem quad4Sample : Obligations.Quad4Sample := by
  intro s i a b x
  refine ⟨fun mode active => ?_, fun other => by rw [exec_quad4Edge, State.sampleAB_not_active a b other]⟩
  have ready : ((s.sampled i a b).axes.get i).state = .active := by rw [State.sampled_axis, active]
  have quad := State.sampleAB_quad4 a b active mode
  refine ⟨fun same => ?same, fun next => ?next, fun previous => ?previous, fun ⟨ha, hb⟩ => ?fault⟩
  case same =>
    obtain ⟨rfl, rfl⟩ := Prod.mk.inj same
    rw [exec_quad4Edge, quad, State.quadSample, quadDecode_same]
  case next => rw [exec_quad4Edge, quad, State.quadSample_count ready (quadDecode_next _ _ _ _ next)]
  case previous => rw [exec_quad4Edge, quad, State.quadSample_count ready (quadDecode_previous _ _ _ _ previous)]
  case fault =>
    rw [exec_quad4Edge, State.sampleAB_fault active mode ha hb]
    have faulted : ((s.withAxis i { x with state := .faulted, refA := a, refB := b }).axes.get i).state = .faulted := by
      rw [State.withAxis_axes, Bank.get_put_self]
    have fault := State.axisFault_of_faulted faulted
    have off : (s.withAxis i { x with state := .faulted, refA := a, refB := b }).env.active (localHandle i) = false := by
      rw [Env.active_localHandle, State.env_axes, faulted]; rfl
    exact ⟨_, rfl, rfl, rfl, State.delivered_queues .., State.delivered_txQueue .., State.delivered_rings ..,
      State.delivered_sensors .., State.delivered_flag_not_active off _, State.delivered_follow _ _ _ rfl,
      fun hold valid => State.LinesTake.forced (State.delivered_takes _ _ _) valid (State.run_of_fault hold fault),
      State.delivered_notices .., fault, State.faultOutN_of_fault fault, fun hold => State.run_of_fault hold fault⟩

/-- Settles O12: the epoch change reaches every block but the windows at once (`Works.renewed`); then the windows recompute and
the lines take the condition of the station. -/
theorem originEvent : Obligations.OriginEvent := by
  intro s i v t h
  have eq : t = _ := s.originEvent_eq i v
  rw [eq]
  obtain ⟨u, follow, windows, takes⟩ := State.delivered_follow (s.withAxis i { s.axes.get i with
      position := v, epoch := (s.axes.get i).epoch + 1, state := .active, lastDirection := none, arm := none }) h
    (s.works.renewed s.env h) (v := s.works) rfl
  refine ⟨rfl, rfl, State.delivered_queues .., State.delivered_txQueue .., fun r => ?rings, fun k => ?lockouts,
    fun k => ?flags, fun q p pulse => ?pulses, ⟨u, follow, windows, takes⟩, fun range => ?discarded, fun j other => ?others⟩
  case rings => rw [State.delivered_rings]; exact Bank.get_change ..
  case lockouts => rw [State.delivered_sensors]; exact Bank.get_change ..
  case flags =>
    rw [State.delivered_windowFlag]
    exact State.delivered_flag ..
  case pulses =>
    apply takes.idle
    rw [follow.pulse, Works.renewed, releasedOn_ended pulse rfl]
  case discarded => rw [State.delivered_notices]; exact Notices.raised_counters_self _ _ .epochDiscard _ range
  case others => rw [State.delivered_notices]; exact Notices.raised_counters_ne _ _ .epochDiscard _ other

/-! ### Samples of Z -/

/-- A rising edge of Z on an armed axis that counts is its origin event. -/
theorem State.sampleZ_origin {s : State} {i : Fin 2} {v : Pos} (low : (s.axes.get i).refZ = false)
    (on : (s.axes.get i).state ≠ .off) (armed : (s.axes.get i).arm = some v) :
    s.sampleZ i true = (s.withAxis i { s.axes.get i with refZ := true }).originEvent i v := by
  rw [State.sampleZ, if_pos (by simp [low, on])]
  split
  · rename_i w e
    cases e.symm.trans armed
    rfl
  · rename_i e
    cases e.symm.trans armed

/-- A sample of Z that is no rising edge, or on an axis that is OFF or not armed, is the reference level. -/
theorem State.sampleZ_level {s : State} {i : Fin 2} {z : Bool}
    (other : (s.axes.get i).refZ = true ∨ z = false ∨ (s.axes.get i).state = .off ∨ (s.axes.get i).arm = none) :
    s.sampleZ i z = s.withAxis i { s.axes.get i with refZ := z } := by
  unfold State.sampleZ
  dsimp only
  split
  · rename_i edge
    rcases other with high | low | off | clear
    · simp [high] at edge
    · simp [low] at edge
    · simp [off] at edge
    · rw [clear]
  · rfl

/-- Settles O11, by whether the sample is a rising edge of an armed axis. -/
theorem risingZ : Obligations.RisingZ := by
  intro s i z x
  refine ⟨fun low high on v armed => ?_, fun other => ?_⟩
  · rw [exec_risingZEdge, high, State.sampleZ_origin low on armed]
  · rw [exec_risingZEdge, State.sampleZ_level other]

/-! ### Origin commands -/

/-- A value fits an axis unless it is M or more on a RING axis (R4). -/
theorem Geometry.admits_iff (g : Geometry) (v : Pos) : g.admits v = true ↔ (g.kind = .ring → v.toNat < g.modulus) := by
  unfold Geometry.admits
  cases g.kind <;> simp

section OriginCommands

variable {s : State} {handle : Byte} {i : Fin 2} (f : Fin 2 → Answer)

theorem State.onLocalAxis_beyond (h : 2 ≤ handle.toNat) : s.onLocalAxis handle f = refuse .badParam s := by
  rw [State.onLocalAxis, indexOf_none h]

theorem State.onLocalAxis_off (h : i.val = handle.toNat) (off : (s.cfg.axes.get i).mode = .off) :
    s.onLocalAxis handle f = refuse .badState s := by
  rw [State.onLocalAxis, indexOf_some h]
  exact if_pos off

theorem State.onLocalAxis_on (h : i.val = handle.toNat) (on : (s.cfg.axes.get i).mode ≠ .off) :
    s.onLocalAxis handle f = f i := by
  rw [State.onLocalAxis, indexOf_some h]
  exact if_neg on

variable {value : BitVec 32} (h : i.val = handle.toNat) (on : (s.cfg.axes.get i).mode ≠ .off)

include h on

/-- A value that the axis admits reaches the command's effect. -/
theorem State.onLocalAxis_fits (effect : Fin 2 → State)
    (fits : (s.cfg.axes.get i).kind = .ring → value.toNat < (s.cfg.axes.get i).modulus) :
    (s.onLocalAxis handle fun i =>
      if (s.cfg.geometry (localHandle i)).admits value then accept (effect i) else refuse .badParam s) =
        accept (effect i) := by
  rw [State.onLocalAxis_on _ h on, Settings.geometry_localHandle, if_pos ((Geometry.admits_iff ..).mpr fits)]

/-- A value of M or more on a RING axis is refused. -/
theorem State.onLocalAxis_unfit (effect : Fin 2 → State)
    (unfit : ¬((s.cfg.axes.get i).kind = .ring → value.toNat < (s.cfg.axes.get i).modulus)) :
    (s.onLocalAxis handle fun i =>
      if (s.cfg.geometry (localHandle i)).admits value then accept (effect i) else refuse .badParam s) =
        refuse .badParam s := by
  rw [State.onLocalAxis_on _ h on, Settings.geometry_localHandle, if_neg fun a => unfit ((Geometry.admits_iff ..).mp a)]

end OriginCommands

/-- A command judged by its own checks leaves what they answer, when COMMANDS_EXECUTED counts the result. -/
theorem State.Executes.answers {s : State} {requester : Station} {tid : Byte} (h : s.Executes requester tid) {c : Cmd}
    {a : Answer} (performs : s.perform requester c = a) (counted : a.result.counted = true) :
    s.takeCommand requester tid c = a.state.answered ⟨requester, tid, c.code, a.result, a.data⟩ := by
  rw [h.takeCommand_eq, performs, Answer.deliver_eq, if_pos counted]
  rfl

/-- Settles O48, by the checks of R177 in their order: the handle, the mode, the value. -/
theorem originCommands : Obligations.OriginCommands := by
  intro s requester tid handle value h
  have sets {a : Answer} (e : s.setOrigin handle value = a) (c : a.result.counted = true) :
      exec (.setOrigin requester tid handle value) s = .next (a.state.answered ⟨requester, tid, 7, a.result, a.data⟩) := by
    rw [exec_setOrigin, h.answers (c := .setOrigin handle value) e c]; rfl
  have arms {a : Answer} (e : s.armIndex handle value = a) (c : a.result.counted = true) :
      exec (.armIndex requester tid handle value) s = .next (a.state.answered ⟨requester, tid, 8, a.result, a.data⟩) := by
    rw [exec_armIndex, h.answers (c := .armIndex handle value) e c]; rfl
  have cancels {a : Answer} (e : s.cancelIndex handle = a) (c : a.result.counted = true) :
      exec (.armIndexCancel requester tid handle) s = .next (a.state.answered ⟨requester, tid, 8, a.result, a.data⟩) := by
    rw [exec_armIndexCancel, h.answers (c := .armIndexCancel handle) e c]; rfl
  refine ⟨fun i hi => ⟨fun on => ⟨fun fits => ?fits, fun unfit => ?unfit, ?cancel⟩, fun off => ?off⟩,
    fun beyond => ?beyond⟩
  case fits => exact ⟨sets (State.onLocalAxis_fits hi on _ fits) rfl, arms (State.onLocalAxis_fits hi on _ fits) rfl⟩
  case unfit => exact ⟨sets (State.onLocalAxis_unfit hi on _ unfit) rfl, arms (State.onLocalAxis_unfit hi on _ unfit) rfl⟩
  case cancel => exact cancels (State.onLocalAxis_on _ hi on) rfl
  case off =>
    exact ⟨sets (State.onLocalAxis_off _ hi off) rfl, arms (State.onLocalAxis_off _ hi off) rfl,
      cancels (State.onLocalAxis_off _ hi off) rfl⟩
  case beyond =>
    exact ⟨sets (State.onLocalAxis_beyond _ beyond) rfl, arms (State.onLocalAxis_beyond _ beyond) rfl,
      cancels (State.onLocalAxis_beyond _ beyond) rfl⟩

end Sys2Proof.Machine
end

section
/-! The trigger queue (chapter 2): positions ahead, what a move leaves of a list of entries, the entries of the whole queue, and
what each event a handle delivers leaves of the lists. -/

namespace Sys2Proof.Machine

/-! ### Positions ahead (R3) -/

/-- The signed difference of R3, by the difference modulo 2^32. -/
theorem signedDifference_eq (a b : Pos) :
    signedDifference a b = if (a - b).toNat < 2147483648 then ((a - b).toNat : Int) else ((a - b).toNat : Int) - 4294967296 := by
  rw [signedDifference, BitVec.toInt_eq_toNat_cond]
  split <;> split <;> omega

theorem isAhead_iff (a b : Pos) : isAhead a b = true ↔ 1 ≤ (a - b).toNat ∧ (a - b).toNat < 2147483648 := by
  have bound := (a - b).isLt
  rw [isAhead, decide_eq_true_iff, signedDifference_eq]
  split <;> omega

/-- The difference to a third position, by the differences to a second. -/
theorem toNat_sub_third (a b c : Pos) :
    (a - c).toNat = ((a - b).toNat + 4294967296 - (c - b).toNat) % 4294967296 := by
  simp only [BitVec.toNat_sub]
  omega

/-! ### Moves of a TRACK axis (R5) -/

/-- A move of a TRACK axis covers the difference of its positions: at most 2^31−1 forward, at most 2^31 backward. -/
def Move.CoversTrack (m : Move) : Prop :=
  match m.dir with
  | .fwd => m.distance = (m.new - m.old).toNat ∧ m.distance < 2147483648
  | .rev => m.distance = (m.old - m.new).toNat ∧ m.distance ≤ 2147483648

/-- No move means no change of position. -/
theorem moveOf_none {g : Geometry} {old new : Pos} (e : moveOf g old new = none) : old = new := by
  unfold moveOf at e
  dsimp only at e
  split_ifs at e
  assumption

/-- A move goes from the old position to the new one. -/
theorem moveOf_ends {g : Geometry} {old new : Pos} {m : Move} (e : moveOf g old new = some m) : m.old = old ∧ m.new = new := by
  unfold moveOf at e
  dsimp only at e
  split_ifs at e <;> cases e <;> exact ⟨rfl, rfl⟩

theorem moveOf_track {g : Geometry} (track : g.kind = .track) (old new : Pos) :
    moveOf g old new =
      if old = new then none
      else if isAhead new old then some ⟨old, new, .fwd, (new - old).toNat⟩
      else some ⟨old, new, .rev, (old - new).toNat⟩ := by
  simp only [moveOf, backwardDistance, forwardDistance, track]

theorem moveOf_coversTrack {g : Geometry} {old new : Pos} {m : Move} (track : g.kind = .track)
    (e : moveOf g old new = some m) : m.CoversTrack := by
  rw [moveOf_track track] at e
  split_ifs at e with same fwd
  · cases e
    exact ⟨rfl, ((isAhead_iff ..).mp fwd).2⟩
  · cases e
    have apart : (old - new).toNat ≠ 0 := fun z =>
      same (by have : old - new = 0 := BitVec.eq_of_toNat_eq z; exact sub_eq_zero.mp this)
    have back : (new - old).toNat = (4294967296 - (old - new).toNat) % 4294967296 := by
      simpa using toNat_sub_third new new old
    have notFwd := mt (isAhead_iff new old).mpr fwd
    exact ⟨rfl, by show (old - new).toNat ≤ _; omega⟩

/-- A count is a move of one (R15). -/
theorem step_coversTrack {g : Geometry} (track : g.kind = .track) (d : Direction) (p : Pos) :
    (Move.mk p (stepPosition g d p) d 1).CoversTrack := by
  rw [stepPosition_track track]
  cases d <;> simp [Move.CoversTrack, sub_sub_cancel]

/-- An entry that a move neither crosses nor carries out of range (R32, R35) stays ahead of the axis (R26). -/
theorem isAhead_of_move {g : Geometry} {m : Move} {e : Entry} (track : g.kind = .track) (covers : m.CoversTrack)
    (ahead : isAhead e.due m.old = true) (kept : passageTakes g m e = false) : isAhead e.due m.new = true := by
  obtain ⟨one, most⟩ := (isAhead_iff ..).mp ahead
  rw [isAhead_iff]
  have third := toNat_sub_third e.due m.old m.new
  cases dir : m.dir with
  | fwd =>
    obtain ⟨distance, short⟩ : m.distance = (m.new - m.old).toNat ∧ m.distance < 2147483648 := by
      simpa [Move.CoversTrack, dir] using covers
    have beyond : m.distance < (e.due - m.old).toNat := by
      simp only [passageTakes, crosses, forwardDistance, track, dir, if_true, one, decide_true, Bool.true_and,
        decide_eq_false_iff_not] at kept
      omega
    omega
  | rev =>
    obtain ⟨distance, short⟩ : m.distance = (m.old - m.new).toNat ∧ m.distance ≤ 2147483648 := by
      simpa [Move.CoversTrack, dir] using covers
    have inRange : (e.due - m.old).toNat + m.distance ≤ 2147483647 := by
      simp only [passageTakes, Entry.overrun, Entry.distanceAhead, signedDifference_eq, dir, reduceCtorEq, if_false, most,
        if_true, decide_eq_false_iff_not] at kept
      omega
    have other : (m.new - m.old).toNat = (4294967296 - m.distance) % 4294967296 := by
      rw [distance]; simpa using toNat_sub_third m.new m.new m.old
    omega

/-! ### Handles and the axes they name -/

@[simp] theorem axisRef_mirrorHandle (i : Fin 6) : axisRef (mirrorHandle i) = .mir i := by
  revert i; decide

theorem eq_localHandle {h : Handle} {i : Fin 2} (e : axisRef h = .loc i) : h = localHandle i := by
  revert h i; decide

theorem eq_mirrorHandle {h : Handle} {i : Fin 6} (e : axisRef h = .mir i) : h = mirrorHandle i := by
  revert h i; decide

@[simp] theorem Settings.geometry_mirrorHandle (cfg : Settings) (i : Fin 6) :
    cfg.geometry (mirrorHandle i) = ⟨(cfg.mirrors.get i).kind, (cfg.mirrors.get i).modulus⟩ := by
  simp [Settings.geometry]

/-- An update of local axis `i` is seen through its own handle alone. -/
theorem Env.other_than_local {env : Env} {i : Fin 2} {x : LocalAxis} {h : Handle} (ne : h ≠ localHandle i) :
    Env.active { env with axes := env.axes.put i x } h = env.active h ∧
      Env.position { env with axes := env.axes.put i x } h = env.position h := by
  unfold Env.active Env.position
  cases e : axisRef h with
  | loc j =>
    have : i ≠ j := fun ij => ne (ij ▸ eq_localHandle e)
    simp only [Bank.get_put_ne _ _ this, and_self]
  | mir j => exact ⟨rfl, rfl⟩

/-- An update of mirror `i` is seen through its own handle alone. -/
theorem Env.other_than_mirror {env : Env} {i : Fin 6} {m : Mirror} {h : Handle} (ne : h ≠ mirrorHandle i) :
    Env.active { env with mirrors := env.mirrors.put i m } h = env.active h ∧
      Env.position { env with mirrors := env.mirrors.put i m } h = env.position h := by
  unfold Env.active Env.position
  cases e : axisRef h with
  | loc j => exact ⟨rfl, rfl⟩
  | mir j =>
    have : i ≠ j := fun ij => ne (ij ▸ eq_mirrorHandle e)
    simp only [Bank.get_put_ne _ _ this, and_self]

/-! ### All entries of the queue (R23) -/

section Entries

variable (w : Works) (h : Handle) (e : Entry)

theorem Works.entriesHeld_eq : w.entriesHeld = w.entries.length := by
  simp [Works.entriesHeld, Works.entries, List.finRange_succ, Nat.add_assoc]

theorem Works.mem_entries : e ∈ w.entries ↔ ∃ h, e ∈ w.queues.get h := by
  simp [Works.entries]

theorem Entry.sameKey_iff (a b : Entry) :
    a.sameKey b = true ↔ a.origin = b.origin ∧ a.sequence = b.sequence ∧ a.source = b.source := by
  simp [Entry.sameKey, and_assoc]

theorem Entry.sameKey_symm (a b : Entry) : a.sameKey b = b.sameKey a := by
  simp [Entry.sameKey, eq_comm]

theorem Works.keyHeld_iff : w.keyHeld e = true ↔ ∃ h x, x ∈ w.queues.get h ∧ x.sameKey e = true := by
  simp [Works.keyHeld]

/-- The entries, those of one handle first. -/
theorem Works.entries_perm :
    w.entries.Perm (w.queues.get h ++ ((List.finRange 8).erase h).flatMap fun k => w.queues.get k) :=
  (List.perm_cons_erase (List.mem_finRange h)).flatMap_right _

/-- The place of an offered entry splits the list (R24). -/
theorem insertEntry_split (p : Pos) (e : Entry) (l : List Entry) :
    ∃ before after, l = before ++ after ∧ insertEntry p e l = before ++ e :: after ∧
      (∀ x ∈ before, x.distanceAhead p ≤ e.distanceAhead p) ∧
      ∀ y ∈ after.head?, e.distanceAhead p < y.distanceAhead p := by
  induction l with
  | nil => exact ⟨[], [], rfl, rfl, by simp, by simp⟩
  | cons x xs ih =>
    unfold insertEntry
    split
    · rename_i le
      obtain ⟨before, after, rfl, eq, low, high⟩ := ih
      exact ⟨x :: before, after, rfl, by rw [eq]; rfl, by simpa [le] using low, high⟩
    · rename_i lt
      exact ⟨[], x :: xs, rfl, rfl, by simp, by simpa using lt⟩

theorem insertEntry_perm (p : Pos) (e : Entry) (l : List Entry) : (insertEntry p e l).Perm (e :: l) := by
  obtain ⟨before, after, rfl, eq, -, -⟩ := insertEntry_split p e l
  rw [eq]
  exact List.perm_middle

/-- An entry more on one handle is an entry more in the queue. -/
theorem Works.entries_cons {w w' : Works} {h : Handle} {e : Entry} (others : ∀ k, k ≠ h → w'.queues.get k = w.queues.get k)
    (more : (w'.queues.get h).Perm (e :: w.queues.get h)) : w'.entries.Perm (e :: w.entries) := by
  have rest : ((List.finRange 8).erase h).flatMap (fun k => w'.queues.get k) =
      ((List.finRange 8).erase h).flatMap fun k => w.queues.get k :=
    List.flatMap_congr fun k hk => others k ((List.nodup_finRange 8).mem_erase_iff.mp hk).1
  refine (w'.entries_perm h).trans ?_
  rw [rest]
  exact (more.append_right _).trans ((w.entries_perm h).symm.cons e)

/-- Fewer entries on each handle are fewer in the queue. -/
theorem Works.entries_sublist {w w' : Works} (fewer : ∀ h, (w'.queues.get h).Sublist (w.queues.get h)) :
    w'.entries.Sublist w.entries :=
  List.Sublist.flatMap_right _ fun h _ => fewer h

end Entries

/-! ### What an event leaves of the lists -/

section Lists

variable (w : Works) (env : Env) (h : Handle) (m : Move)

/-- The crossed entries leave one by one. -/
def Works.leaveAll (w : Works) (env : Env) (h : Handle) (l : List Entry) : Works := l.foldl (fun w e => w.leave env h e) w

theorem Works.leaveAll_frame (l : List Entry) : w.SendingOnly (w.leaveAll env h l) :=
  foldl_frame _ SendingOnly .refl .trans (fun b e => b.leave_frame env h e) l w

/-- The entries of the handle that a move crosses. -/
def Works.crossed : List Entry := (w.queues.get h).filter fun e => crosses (env.cfg.geometry h) m e.due

/-- The blocks with the crossed entries taken off their list. -/
def Works.uncrossed : Works :=
  { w with queues := w.queues.put h ((w.queues.get h).filter fun e => !crosses (env.cfg.geometry h) m e.due) }

theorem Works.queueMove_fwd (fwd : m.dir = .fwd) :
    w.queueMove env h m =
      ((w.crossed env h m).filterMap fun e => e.firedAction env,
        (w.uncrossed env h m).leaveAll env h (w.crossed env h m)) := by
  rw [Works.queueMove, fwd]; rfl

theorem Works.queueMove_rev (rev : m.dir = .rev) :
    w.queueMove env h m = ([], w.removeMissed env h (Entry.overrun m)) := by
  rw [Works.queueMove, rev]

/-- A position event takes from its list what a silent passage would. -/
theorem Works.queueMove_queues :
    (w.queueMove env h m).2.queues =
      w.queues.put h ((w.queues.get h).filter fun e => !passageTakes (env.cfg.geometry h) m e) := by
  cases dir : m.dir with
  | fwd =>
    rw [w.queueMove_fwd env h m dir]
    have frame := (w.uncrossed env h m).leaveAll_frame env h (w.crossed env h m)
    unfold SendingOnly at frame
    rw [frame]
    simp only [Works.uncrossed, passageTakes, dir, if_true]
  | rev =>
    rw [w.queueMove_rev env h m dir, Works.removeMissed_eq]
    simp only [passageTakes, dir, reduceCtorEq, if_false]

/-- `w` with other sensors and lines, and another count of free values. -/
def Works.beside (w : Works) (x : Bank Sensor 4) (o : Bank Output 8) (n : Nat) : Works :=
  { w with sensors := x, outputs := o, choice := n }

section Beside

variable (x : Bank Sensor 4) (o : Bank Output 8) (n : Nat)

theorem Works.offerTag_beside (t : Tag) : (w.beside x o n).offerTag env t = (w.offerTag env t).beside x o n := by
  have held : (w.beside x o n).tagsHeld = w.tagsHeld := rfl
  unfold Works.offerTag
  rw [held]
  split <;> rfl

theorem Works.forwardTag_beside (e : Entry) : (w.beside x o n).forwardTag env h e = (w.forwardTag env h e).beside x o n := by
  unfold Works.forwardTag
  split
  · split
    · exact w.offerTag_beside env x o n _
    · rfl
  · rfl

theorem Works.leave_beside (e : Entry) : (w.beside x o n).leave env h e = (w.leave env h e).beside x o n := by
  unfold Works.leave
  split
  · exact w.forwardTag_beside env h x o n e
  · exact Works.forwardTag_beside (w.raise env .suppressed) env h x o n e

theorem Works.leaveAll_beside (l : List Entry) : (w.beside x o n).leaveAll env h l = (w.leaveAll env h l).beside x o n := by
  induction l generalizing w with
  | nil => rfl
  | cons e l ih =>
    have first := w.leave_beside env h x o n e
    simp only [Works.leaveAll, List.foldl_cons, first] at ih ⊢
    exact ih _

/-- The trigger queue reads neither the sensors nor the lines. -/
theorem Works.queueMove_beside :
    (w.beside x o n).queueMove env h m = ((w.queueMove env h m).1, (w.queueMove env h m).2.beside x o n) := by
  cases dir : m.dir with
  | fwd =>
    rw [Works.queueMove_fwd _ env h m dir, Works.queueMove_fwd _ env h m dir]
    exact congrArg (Prod.mk _) ((w.uncrossed env h m).leaveAll_beside env h x o n _)
  | rev =>
    rw [Works.queueMove_rev _ env h m dir, Works.queueMove_rev _ env h m dir, Works.removeMissed_eq, Works.removeMissed_eq]
    rfl

end Beside

/-- The blocks once a position event has reached them all but the windows, and no action its line. -/
def Works.moved : Works :=
  { (w.queueMove env h m).2 with
    outputs := (w.releaseCrossed env h m).outputs
    sensors := (w.lockoutsMove env h m).sensors
    rings := w.rings.change (ringAfter env h m)
    choice := (w.arrange (w.eventActions env h m)).2.choice }

/-- The actions of a position event, in the order in which they reach their lines. -/
def Works.eventOrder : List (List Action) := (w.arrange (w.eventActions env h m)).1

/-- A position event (R7): every block takes the move, the actions reach their lines, and the windows recompute. -/
theorem Works.positionEvent_eq :
    w.positionEvent env h m =
      ((w.moved env h m).actAll env (some h) (w.eventOrder env h m).flatten).recomputeOn env h := by
  have before : ((w.arrange (w.eventActions env h m)).2.releaseCrossed env h m).lockoutsMove env h m =
      w.beside (w.lockoutsMove env h m).sensors (w.releaseCrossed env h m).outputs
        (w.arrange (w.eventActions env h m)).2.choice := by
    rw [w.arrange_works (w.eventActions env h m)]; rfl
  have rings : (w.queueMove env h m).2.rings = w.rings := by rw [w.queueMove_frame env h m]
  unfold Works.positionEvent
  dsimp only
  rw [before, Works.queueMove_beside, Works.ringsMove_eq]
  simp only [Works.beside, rings]
  rfl

/-- A position event and a silent passage leave the same entries. -/
theorem Works.positionEvent_queues :
    (w.positionEvent env h m).queues =
      w.queues.put h ((w.queues.get h).filter fun e => !passageTakes (env.cfg.geometry h) m e) := by
  have acts := Works.actAll_frame (w.moved env h m) env (some h) (w.eventOrder env h m).flatten
  unfold OutputsOnly at acts
  rw [Works.positionEvent_eq, Works.recomputeOn_queues, acts]
  exact w.queueMove_queues env h m

theorem Works.silentPassage_queues :
    (w.silentPassage env h m).queues =
      w.queues.put h ((w.queues.get h).filter fun e => !passageTakes (env.cfg.geometry h) m e) := by
  rw [Works.silentPassage_eq, Works.recomputeOn_queues]; rfl

theorem Works.epochChange_queues : (w.epochChange env h).queues = w.queues.put h [] := by
  rw [Works.epochChange_eq, Works.recomputeOn_queues]; rfl

theorem Works.becomesActive_queues :
    (w.becomesActive env h).queues = w.queues.put h ((w.queues.get h).filter fun e => isAhead e.due (env.position h)) := by
  rw [Works.becomesActive, Works.recomputeOn_queues, Works.queueActive, Works.removeMissed_eq]
  simp only [Bool.not_not]

theorem Works.stopsBeingActive_queues : (w.stopsBeingActive env h).queues = w.queues := by
  rw [Works.stopsBeingActive_eq, Works.recomputeOn_queues]

end Lists

end Sys2Proof.Machine
end

section
/-! What a step of the station can do to the trigger queue: every step is a chain of deeds, each of one of five kinds. -/

namespace Sys2Proof.Machine

/-- Whether a handle is ACTIVE, and where it stands, its axis alone says. -/
theorem Env.axes_decide {a b : Env} (axes : a.axes = b.axes) (mirrors : a.mirrors = b.mirrors) (h : Handle) :
    a.active h = b.active h ∧ a.position h = b.position h := by
  obtain ⟨_, _, _, _, _, _⟩ := a
  cases axes
  cases mirrors
  exact ⟨rfl, rfl⟩

/-! ### The deeds -/

/-- A sensor whose edge is not NONE captures on a TRACK handle in use (R44). -/
def Settings.CapturesOnTrack (c : Settings) : Prop :=
  ∀ k, (c.sensors.get k).edge ≠ .none → ∀ h, (c.sensors.get k).capture = some h → c.isTrack h = true

/-- While handle `h` is ACTIVE, its entries are due strictly ahead of it (R26). -/
def State.Ahead (s : State) (h : Handle) : Prop :=
  s.env.active h = true → ∀ e ∈ s.works.queues.get h, isAhead e.due (s.env.position h) = true

/-- From `s` to `t` handle `h` stays as the trigger queue knows it: ACTIVE or not, its position, its entries. -/
structure State.SameHandle (s t : State) (h : Handle) : Prop where
  active : t.env.active h = s.env.active h
  position : t.env.position h = s.env.position h
  entries : t.works.queues.get h = s.works.queues.get h

/-- Entries are offered on handle `h` in ROTATING alone (R47, R58, R169), and on a TRACK axis or the axis that a sensor captures on
(R25). -/
structure State.OffersOn (s : State) (h : Handle) : Prop where
  rotating : s.bus.station = .rotating
  suits : (s.cfg.geometry h).kind = .track ∨
    ∃ k, (s.cfg.sensors.get k).edge ≠ .none ∧ (s.cfg.sensors.get k).capture = some h

/-- What the parts of a step do to the trigger queue and to what it rests on. -/
inductive State.Deed (s t : State) : Prop where
  /-- The queue and its axes stay; the station may become ROTATING. -/
  | quiet (cfg : t.cfg = s.cfg) (station : t.bus.station = s.bus.station ∨ t.bus.station = .rotating)
      (same : ∀ h, s.SameHandle t h)
  /-- The queue is emptied. -/
  | emptied (cfg : t.cfg = s.cfg ∨ t.cfg.CapturesOnTrack) (none : ∀ h, t.works.queues.get h = [])
  /-- LOADING ends. -/
  | loaded (loading : s.bus.station = .loading) (cfg : t.cfg = s.cfg ∨ t.cfg.CapturesOnTrack)
      (queues : t.works.queues = s.works.queues)
  /-- One handle moves, changes its state or loses entries. -/
  | handle (h : Handle) (cfg : t.cfg = s.cfg) (station : t.bus.station = s.bus.station)
      (others : ∀ k, k ≠ h → s.SameHandle t k) (fewer : (t.works.queues.get h).Sublist (s.works.queues.get h))
      (ahead : (s.cfg.geometry h).kind = .track → s.Ahead h → t.Ahead h)
  /-- An entry is offered. -/
  | offer (h : Handle) (e : Entry) (on : s.OffersOn h) (eq : t = s.withWorks (s.works.offer s.env h e).2)

/-- A chain of deeds. -/
def State.Deeds : State → State → Prop := Relation.ReflTransGen State.Deed

section

variable {s t u : State}

theorem State.Deeds.refl (s : State) : s.Deeds s := Relation.ReflTransGen.refl

theorem State.Deeds.trans (a : s.Deeds t) (b : t.Deeds u) : s.Deeds u := Relation.ReflTransGen.trans a b

theorem State.Deed.one (d : s.Deed t) : s.Deeds t := Relation.ReflTransGen.single d

/-- The same, the later chain first. -/
theorem State.Deeds.after (b : t.Deeds u) (a : s.Deeds t) : s.Deeds u := a.trans b

/-- A predicate that every deed keeps, a chain of them keeps. -/
theorem State.Deeds.keeps {P : State → Prop} (keep : ∀ a b : State, a.Deed b → P a → P b) (d : s.Deeds t) (p : P s) : P t := by
  induction d with
  | refl => exact p
  | tail _ one ih => exact keep _ _ one ih

/-- A fold of chains is a chain. -/
theorem State.Deeds.foldl {α : Type} {f : State → α → State} (one : ∀ (s : State) (x : α), s.Deeds (f s x)) (l : List α)
    (s : State) : s.Deeds (l.foldl f s) :=
  foldl_frame f State.Deeds .refl (fun _ _ _ a b => a.trans b) one l s

/-! ### Updates that do not concern the queue -/

theorem State.Deeds.quiet (cfg : t.cfg = s.cfg) (station : t.bus.station = s.bus.station) (axes : t.axes = s.axes)
    (mirrors : t.mirrors = s.mirrors) (queues : t.works.queues = s.works.queues) : s.Deeds t :=
  State.Deed.one (.quiet cfg (.inl station) fun h =>
    have ⟨active, position⟩ := Env.axes_decide (a := t.env) (b := s.env) axes mirrors h
    ⟨active, position, by rw [queues]⟩)

theorem State.withWorks_deeds {w : Works} (queues : w.queues = s.works.queues) : s.Deeds (s.withWorks w) :=
  .quiet rfl rfl rfl rfl queues

theorem State.withBus_deeds {b : Bus} (station : b.station = s.bus.station) : s.Deeds (s.withBus b) :=
  .quiet rfl station rfl rfl rfl

theorem State.raise_deeds (k : NoticeKind) : s.Deeds (s.raise k) := withWorks_deeds rfl

theorem State.refreshLines_deeds : s.Deeds s.refreshLines := withWorks_deeds rfl

theorem State.withEntry_deeds (n : Fin 32) (e : RosterEntry) : s.Deeds (s.withEntry n e) := .quiet rfl rfl rfl rfl rfl

theorem State.withHoldIn_deeds (x : HoldIn) : s.Deeds (s.withHoldIn x) := .quiet rfl rfl rfl rfl rfl

theorem State.withCommand_deeds (c : CommandUnit) : s.Deeds (s.withCommand c) := .quiet rfl rfl rfl rfl rfl

theorem State.withRule_deeds (k : Fin 8) (r : Rule) : s.Deeds (s.withRule k r) := .quiet rfl rfl rfl rfl rfl

theorem State.withSensor_deeds (k : Fin 4) (x : Sensor) : s.Deeds (s.withSensor k x) := withWorks_deeds rfl

theorem State.withRing_deeds (r : Fin 4) (x : Ring) : s.Deeds (s.withRing r x) := withWorks_deeds rfl

theorem State.draw_deeds : s.Deeds (s.withWorks s.works.draw.2) := withWorks_deeds rfl

/-! ### What a handle delivers -/

/-- Handle `h` changes, with the list `l` left on it. -/
theorem State.handle_deeds {h : Handle} {l : List Entry} (cfg : t.cfg = s.cfg) (station : t.bus.station = s.bus.station)
    (others : ∀ k, k ≠ h → t.env.active k = s.env.active k ∧ t.env.position k = s.env.position k)
    (queues : t.works.queues = s.works.queues.put h l) (fewer : l.Sublist (s.works.queues.get h))
    (ahead : (s.cfg.geometry h).kind = .track → s.Ahead h → t.env.active h = true →
      ∀ e ∈ l, isAhead e.due (t.env.position h) = true) : s.Deeds t := by
  have list : t.works.queues.get h = l := by rw [queues, Bank.get_put_self]
  refine State.Deed.one (.handle h cfg station (fun k ne => ?_) (list ▸ fewer) fun track before active => ?_)
  · obtain ⟨active, position⟩ := others k ne
    exact ⟨active, position, by rw [queues, Bank.get_put_ne _ _ ne.symm]⟩
  · rw [list]
    exact ahead track before active

/-- Local axis `i` becomes `x`, with the list `l` left on its handle. -/
theorem State.axis_deeds {i : Fin 2} {x : LocalAxis} {l : List Entry} (cfg : t.cfg = s.cfg)
    (station : t.bus.station = s.bus.station) (axes : t.axes = s.axes.put i x) (mirrors : t.mirrors = s.mirrors)
    (queues : t.works.queues = s.works.queues.put (localHandle i) l)
    (fewer : l.Sublist (s.works.queues.get (localHandle i)))
    (ahead : (s.cfg.axes.get i).kind = .track → s.Ahead (localHandle i) → x.state = .active →
      ∀ e ∈ l, isAhead e.due x.position = true) : s.Deeds t := by
  have reads := Env.axes_decide (a := t.env) (b := { s.env with axes := s.env.axes.put i x }) axes mirrors
  refine handle_deeds cfg station (fun k ne => ?_) queues fewer fun track before active => ?_
  · obtain ⟨active, position⟩ := Env.other_than_local (env := s.env) (x := x) ne
    exact ⟨(reads k).1.trans active, (reads k).2.trans position⟩
  · rw [(reads _).1] at active
    rw [(reads _).2]
    simpa [Env.position] using ahead (by simpa using track) before (by simpa using active)

/-- Mirror `i` becomes `m`, with the list `l` left on its handle. -/
theorem State.mirror_deeds {i : Fin 6} {m : Mirror} {l : List Entry} (cfg : t.cfg = s.cfg)
    (station : t.bus.station = s.bus.station) (axes : t.axes = s.axes) (mirrors : t.mirrors = s.mirrors.put i m)
    (queues : t.works.queues = s.works.queues.put (mirrorHandle i) l)
    (fewer : l.Sublist (s.works.queues.get (mirrorHandle i)))
    (ahead : (s.cfg.mirrors.get i).kind = .track → s.Ahead (mirrorHandle i) → m.state = .active →
      ∀ e ∈ l, isAhead e.due m.position = true) : s.Deeds t := by
  have reads := Env.axes_decide (a := t.env) (b := { s.env with mirrors := s.env.mirrors.put i m }) axes mirrors
  refine handle_deeds cfg station (fun k ne => ?_) queues fewer fun track before active => ?_
  · obtain ⟨active, position⟩ := Env.other_than_mirror (env := s.env) (m := m) ne
    exact ⟨(reads k).1.trans active, (reads k).2.trans position⟩
  · rw [(reads _).1] at active
    rw [(reads _).2]
    simpa [Env.position] using ahead (by simpa using track) before (by simpa [Env.active] using active)

/-- The entries that a move of an ACTIVE TRACK axis leaves on its list are ahead of its new position. -/
theorem ahead_of_kept {g : Geometry} {m : Move} {l : List Entry} (track : g.kind = .track) (covers : m.CoversTrack)
    (ahead : ∀ e ∈ l, isAhead e.due m.old = true) :
    ∀ e ∈ l.filter fun e => !passageTakes g m e, isAhead e.due m.new = true := by
  intro e he
  obtain ⟨mem, kept⟩ := List.mem_filter.mp he
  exact isAhead_of_move track covers (ahead e mem) (by simpa using kept)

/-! ### Local axes -/

section LocalAxes

variable (s : State) (i : Fin 2)

/-- What is kept of a local axis besides its state and position is no concern of the queue. -/
theorem State.withAxis_deeds {x : LocalAxis} (state : x.state = (s.axes.get i).state)
    (position : x.position = (s.axes.get i).position) : s.Deeds (s.withAxis i x) :=
  axis_deeds rfl rfl rfl rfl (Bank.get_put_eq ..).symm (.refl _) fun _ before active e he => by
    have := before (by simpa [← state] using active) e he
    simpa [Env.position, position] using this

/-- A count (R15): the entries it crosses or carries out of range leave (R32, R35). -/
theorem State.count_deeds (d : Direction) : s.Deeds (s.count i d) := by
  by_cases active : (s.axes.get i).state = .active
  · rw [State.count_eq active]
    refine axis_deeds rfl rfl (State.counted_axes d) rfl (Works.positionEvent_queues ..) List.filter_sublist
      fun track before _ => ?_
    have kind : (s.cfg.geometry (localHandle i)).kind = .track := by simpa using track
    refine ahead_of_kept kind (step_coversTrack kind _ _) ?_
    simpa [Env.position] using before (by rw [Env.active_localHandle]; exact decide_eq_true active)
  · rw [State.count, if_neg active]
    exact .refl s

theorem State.encoderFault_deeds : s.Deeds (s.encoderFault i) :=
  .trans (t := ((s.withAxis i { s.axes.get i with state := .faulted }).raise .encoderFault).stopsBeingActive (localHandle i))
    (axis_deeds (l := s.works.queues.get (localHandle i)) rfl rfl rfl rfl
      ((Works.stopsBeingActive_queues ..).trans (Bank.get_put_eq ..).symm) (.refl _) fun _ _ active => nomatch active)
    State.refreshLines_deeds

theorem State.originEvent_deeds (v : Pos) : s.Deeds (s.originEvent i v) :=
  .trans (t := (s.withAxis i { s.axes.get i with
      position := v, epoch := (s.axes.get i).epoch + 1, state := .active, lastDirection := none, arm := none }).epochChange
        (localHandle i))
    (axis_deeds (l := []) rfl rfl rfl rfl (Works.epochChange_queues ..) (List.nil_sublist _) fun _ _ _ _ he => nomatch he)
    State.refreshLines_deeds

theorem State.quadSample_deeds (a b a' b' : Bool) : s.Deeds (s.quadSample i a b a' b') := by
  unfold State.quadSample
  split
  · exact .refl s
  · exact s.count_deeds i _
  · exact s.encoderFault_deeds i

theorem State.pulseDirSample_deeds (a a' b' : Bool) : s.Deeds (s.pulseDirSample i a a' b') := by
  unfold State.pulseDirSample
  split
  · exact s.count_deeds i _
  · exact .refl s

theorem State.upDownSample_deeds (a b a' b' : Bool) : s.Deeds (s.upDownSample i a b a' b') := by
  unfold State.upDownSample
  dsimp only
  split
  · refine State.draw_deeds.trans ?_
    split
    · exact (State.count_deeds _ i _).trans (State.count_deeds _ i _)
    · exact (State.count_deeds _ i _).trans (State.count_deeds _ i _)
  · split
    · exact s.count_deeds i _
    · split
      · exact s.count_deeds i _
      · exact .refl s

theorem State.sampleAB_deeds (a b : Bool) : s.Deeds (s.sampleAB i a b) := by
  have sampled : s.Deeds (s.withAxis i { s.axes.get i with refA := a, refB := b }) := s.withAxis_deeds i rfl rfl
  unfold State.sampleAB
  dsimp only
  refine sampled.trans ?_
  split
  · split
    · exact .refl _
    · exact State.quadSample_deeds _ i _ _ _ _
    · exact State.pulseDirSample_deeds _ i _ _ _
    · exact State.upDownSample_deeds _ i _ _ _ _
  · exact .refl _

theorem State.sampleZ_deeds (z : Bool) : s.Deeds (s.sampleZ i z) := by
  have sampled : s.Deeds (s.withAxis i { s.axes.get i with refZ := z }) := s.withAxis_deeds i rfl rfl
  unfold State.sampleZ
  dsimp only
  refine sampled.trans ?_
  split
  · split
    · exact State.originEvent_deeds _ i _
    · exact .refl _
  · exact .refl _

end LocalAxes

/-! ### Mirrors -/

section Mirrors

variable (s : State)

theorem State.staleMirror_deeds (i : Fin 6) : s.Deeds (s.staleMirror i) := by
  unfold State.staleMirror
  dsimp only
  split
  · exact mirror_deeds (l := s.works.queues.get (mirrorHandle i)) (m := { s.mirrors.get i with state := .stale }) rfl rfl rfl rfl
      ((Works.stopsBeingActive_queues ..).trans (Bank.get_put_eq ..).symm) (.refl _) fun _ _ active => nomatch active
  · exact .refl s

theorem State.stalePublished_deeds (n : Station) (keep : List (Fin 6)) : s.Deeds (s.stalePublished n keep) :=
  .foldl (fun s i => by
    split
    · exact s.staleMirror_deeds i
    · exact .refl s) _ s

/-- Where a mirror that takes a report stands. -/
theorem State.takes_position (i : Fin 6) (r : AxisReport) :
    (s.withMirror i ((s.mirrors.get i).takes r)).env.position (mirrorHandle i) =
      ((s.mirrors.get i).takes r).position := by
  simp [Env.position]

/-- A mirror becomes ACTIVE at the reported position (R38, R106, R108): what is not ahead of it leaves. -/
theorem State.report_activates (i : Fin 6) (r : AxisReport) :
    s.Deeds ((s.withMirror i ((s.mirrors.get i).takes r)).becomesActive (mirrorHandle i)) :=
  mirror_deeds rfl rfl rfl rfl (Works.becomesActive_queues ..) List.filter_sublist fun _ _ _ _ he =>
    (s.takes_position i r) ▸ (List.mem_filter.mp he).2

/-- The same with the passage to that position (R108). -/
theorem State.report_recovers (i : Fin 6) (r : AxisReport) (mv : Move) :
    s.Deeds (((s.withMirror i ((s.mirrors.get i).takes r)).becomesActive (mirrorHandle i)).silentPassage (mirrorHandle i) mv) := by
  have lists := Works.silentPassage_queues
    (s.works.becomesActive (s.withMirror i ((s.mirrors.get i).takes r)).env (mirrorHandle i))
    (s.withMirror i ((s.mirrors.get i).takes r)).env (mirrorHandle i) mv
  rw [Works.becomesActive_queues, Bank.put_put, Bank.get_put_self] at lists
  exact mirror_deeds rfl rfl rfl rfl lists (List.filter_sublist.trans List.filter_sublist) fun _ _ _ e he =>
    (s.takes_position i r) ▸ (List.mem_filter.mp (List.mem_filter.mp he).1).2

/-- An ACTIVE mirror moves to the reported position (R107): an entry that the move takes leaves, whatever event delivers it. -/
theorem State.report_moves {t : State} (i : Fin 6) (r : AxisReport) (mv : Move) (active : (s.mirrors.get i).state = .active)
    (move : moveOf (s.cfg.geometry (mirrorHandle i)) (s.mirrors.get i).position r.position = some mv)
    (cfg : t.cfg = s.cfg) (station : t.bus.station = s.bus.station) (axes : t.axes = s.axes)
    (mirrors : t.mirrors = s.mirrors.put i ((s.mirrors.get i).takes r))
    (queues : t.works.queues = s.works.queues.put (mirrorHandle i) ((s.works.queues.get (mirrorHandle i)).filter fun e =>
      !passageTakes (s.cfg.geometry (mirrorHandle i)) mv e)) : s.Deeds t := by
  obtain ⟨old, new⟩ := moveOf_ends move
  refine mirror_deeds cfg station axes mirrors queues List.filter_sublist fun track before _ => ?_
  have kind : (s.cfg.geometry (mirrorHandle i)).kind = .track := by simpa using track
  have ahead : ∀ e ∈ s.works.queues.get (mirrorHandle i), isAhead e.due mv.old = true := by
    rw [old]
    simpa [Env.position] using before (by simp [Env.active, active])
  have left := ahead_of_kept kind (moveOf_coversTrack kind move) ahead
  rwa [new] at left

/-- A report (R105 to R110) is a deed of its mirror's handle. -/
theorem State.applyReport_deeds (i : Fin 6) (r : AxisReport) : s.Deeds (s.applyReport i r) := by
  have stays {m : Mirror} (off : m.state ≠ .active) : s.Deeds (s.withMirror i m) :=
    mirror_deeds rfl rfl rfl rfl (Bank.get_put_eq ..).symm (.refl _) fun _ _ active => absurd active off
  unfold State.applyReport
  dsimp only
  split
  · split
    · exact mirror_deeds (l := s.works.queues.get (mirrorHandle i)) (m := { s.mirrors.get i with state := .remoteFault })
        rfl rfl rfl rfl ((Works.stopsBeingActive_queues ..).trans (Bank.get_put_eq ..).symm) (.refl _)
        fun _ _ active => nomatch active
    · exact stays nofun
  · split
    · exact mirror_deeds (l := []) rfl rfl rfl rfl (Works.epochChange_queues ..) (List.nil_sublist _) fun _ _ _ _ he => nomatch he
    · split
      · exact s.report_activates i r
      · rename_i active
        split
        · rename_i none
          refine mirror_deeds rfl rfl rfl rfl (Bank.get_put_eq ..).symm (.refl _) fun _ before _ => ?_
          have same : (s.mirrors.get i).position = r.position := moveOf_none none
          simpa [Env.position, Mirror.takes, ← same] using before (by simp [Env.active, active])
        · rename_i mv move
          split
          · exact s.report_moves i r mv active move rfl rfl rfl rfl (Works.positionEvent_queues ..)
          · exact s.report_moves i r mv active move rfl rfl rfl rfl (Works.silentPassage_queues ..)
      · split
        · exact s.report_activates i r
        · exact s.report_recovers i r _

end Mirrors

end

/-! ### Offers -/

section Offers

variable {s : State} {h : Handle}

/-- An offer, whatever the consumer blocks have come to. -/
theorem State.OffersOn.offer (on : s.OffersOn h) (w : Works) (e : Entry) :
    (s.withWorks w).Deeds (s.withWorks (w.offer s.env h e).2) :=
  State.Deed.one (.offer h e ⟨on.rotating, on.suits⟩ rfl)

/-- The rules that take a tag offer their entries one after another (R62). -/
theorem State.OffersOn.rulesTake (on : s.OffersOn h) (w : Works) (src : RuleSource) (t : Tag) :
    (s.withWorks w).Deeds (s.withWorks (w.rulesTake s.env h src t)) :=
  foldl_frame _ (fun a b => (s.withWorks a).Deeds (s.withWorks b)) (fun _ => .refl _) (fun _ _ _ a b => a.trans b)
    (fun b k => by
      unfold Works.ruleTakes
      split
      · exact on.offer b _
      · exact .refl _) _ w

theorem Works.offerTag_queues (w : Works) (env : Env) (t : Tag) : (w.offerTag env t).queues = w.queues := by
  have frame := w.offerTag_frame env t
  unfold Works.SendingOnly at frame
  rw [frame]

theorem State.publish_deeds (w : Works) (k : Fin 4) (t : Tag) :
    (s.withWorks w).Deeds (s.withWorks (w.publish s.env k t)) := by
  unfold Works.publish
  split
  · exact State.withWorks_deeds (s := s.withWorks w) (w.offerTag_queues s.env t)
  · exact .refl _

/-- A local tag is handed to the rules and to the transmit queue, in either order (R53). -/
theorem State.OffersOn.localTag (on : s.OffersOn h) (k : Fin 4) (t : Tag) :
    s.Deeds (s.withWorks (s.works.localTag s.env h k t)) := by
  unfold Works.localTag
  split
  · refine State.draw_deeds.trans ?_
    split
    · exact (on.rulesTake s.works.draw.2 _ t).trans (State.publish_deeds _ k t)
    · exact (State.publish_deeds s.works.draw.2 k t).trans (on.rulesTake _ _ t)
  · exact (on.rulesTake s.works _ t).trans (State.publish_deeds _ k t)

/-- A remote tag is offered on a TRACK handle alone (R56). -/
theorem Env.mapTag_track {env : Env} {id : BitVec 6} (e : env.mapTag id = some h) : (env.cfg.geometry h).kind = .track := by
  have found := List.find?_some e
  simp only [Settings.isTrack, Bool.and_eq_true, decide_eq_true_eq] at found
  exact found.1.2

theorem State.remoteTag_deeds (rotating : s.bus.station = .rotating) (t : Tag) :
    s.Deeds (s.withWorks (s.works.remoteTag s.env t)) := by
  unfold Works.remoteTag
  split
  · exact State.raise_deeds _
  · rename_i mapped
    split
    · exact State.raise_deeds _
    · exact State.OffersOn.rulesTake ⟨rotating, .inl (Env.mapTag_track mapped)⟩ s.works _ t

end Offers

/-! ### Sensors -/

section Sensors

variable (s : State) (k : Fin 4)

theorem State.makeTag_deeds {h : Handle} (on : s.OffersOn h) (id : BitVec 6) : s.Deeds (s.makeTag k h id) := by
  have numbered : s.Deeds { s with nextSequence := s.nextSequence + 1 } := .quiet rfl rfl rfl rfl rfl
  have tagged := State.OffersOn.localTag (s := { s with nextSequence := s.nextSequence + 1 }) ⟨on.rotating, on.suits⟩ k
    (s.capturedTag k h id)
  exact numbered.trans (tagged.trans (State.withSensor_deeds k _))

theorem State.capture_deeds (rotating : s.bus.station = .rotating) (edge : (s.cfg.sensors.get k).edge ≠ .none) :
    s.Deeds (s.capture k) := by
  unfold State.capture
  split
  · exact .refl s
  · rename_i h capture
    split
    · split
      · exact s.makeTag_deeds k ⟨rotating, .inr ⟨k, edge, capture⟩⟩ _
      · exact .refl s
    · exact State.raise_deeds _

theorem State.sensorEdge_deeds (level : Bool) : s.Deeds (s.sensorEdge k level) := by
  unfold State.sensorEdge
  split
  · rename_i accepted
    obtain ⟨interest, -, rotating, -⟩ := accepted
    exact s.capture_deeds k rotating fun none => by simp [none, EdgeSetting.interest] at interest
  · exact .refl s

theorem State.qualify_deeds : s.Deeds (s.qualify k) := (State.withSensor_deeds _ _).trans (State.sensorEdge_deeds _ k _)

theorem State.sensorSample_deeds (level : Bool) : s.Deeds (s.sensorSample k level) := by
  unfold State.sensorSample
  dsimp only
  split
  · exact State.withSensor_deeds _ _
  · split
    · exact State.withSensor_deeds _ _
    · split
      · exact (State.withSensor_deeds _ _).trans (State.qualify_deeds _ k)
      · split <;> exact State.withSensor_deeds _ _

theorem State.qualifyPending_deeds : s.Deeds (s.qualifyPending k) := by
  unfold State.qualifyPending
  split
  · exact s.qualify_deeds k
  · exact .refl s

theorem State.holdInQualified_deeds : s.Deeds s.holdInQualified := by
  unfold State.holdInQualified
  split
  · exact (State.withHoldIn_deeds _).trans State.refreshLines_deeds
  · exact .refl s

end Sensors

/-! ### Console commands -/

section Commands

variable (s : State)

theorem State.readStatus_state (page handle : Byte) : (s.readStatus page handle).state = s := by
  unfold State.readStatus
  split
  case h_2 => split <;> rfl
  all_goals rfl

theorem State.readQueue_state (handle index : Byte) : (s.readQueue handle index).state = s := by
  unfold State.readQueue
  split
  · rfl
  · split <;> rfl

theorem State.trimCam_deeds (ring entry : Byte) (position : BitVec 32) : s.Deeds (s.trimCam ring entry position).state := by
  unfold State.trimCam
  split
  · exact .refl s
  · split
    · exact .refl s
    · dsimp only
      split
      · exact State.withRing_deeds _ _
      · exact .refl s

theorem State.trimRule_deeds (rule : Byte) (offset : BitVec 32) : s.Deeds (s.trimRule rule offset).state := by
  unfold State.trimRule
  split
  · exact .refl s
  · split
    · exact State.withRule_deeds _ _
    · exact .refl s

theorem State.trimWindow_deeds (window : Byte) (lower upper : BitVec 32) :
    s.Deeds (s.trimWindow window lower upper).state := by
  unfold State.trimWindow
  split
  · exact .refl s
  · split
    · exact .refl s
    · dsimp only
      split
      · exact State.withWorks_deeds (by rw [Works.recompute_frame])
      · exact .refl s

theorem State.armRule_deeds (index arm : Byte) : s.Deeds (s.armRule index arm).state := by
  unfold State.armRule
  split
  · exact State.withRule_deeds _ _
  · exact .refl s

theorem State.armRing_deeds (index arm start : Byte) : s.Deeds (s.armRing index arm start).state := by
  unfold State.armRing
  split
  · dsimp only
    split
    · split
      · split
        · exact State.withRing_deeds _ _
        · exact .refl s
      · exact State.withRing_deeds _ _
    · exact .refl s
  · exact .refl s

/-- An origin command acts on its axis, or is refused. -/
theorem State.onLocalAxis_deeds {handle : Byte} {f : Fin 2 → Answer} (effect : ∀ i, s.Deeds (f i).state) :
    s.Deeds (s.onLocalAxis handle f).state := by
  unfold State.onLocalAxis
  split
  · exact .refl s
  · split
    · exact .refl s
    · exact effect _

theorem State.setOrigin_deeds (handle : Byte) (value : BitVec 32) : s.Deeds (s.setOrigin handle value).state :=
  s.onLocalAxis_deeds fun i => by
    split
    · exact s.originEvent_deeds i value
    · exact .refl s

theorem State.armIndex_deeds (handle : Byte) (value : BitVec 32) : s.Deeds (s.armIndex handle value).state :=
  s.onLocalAxis_deeds fun i => by
    split
    · exact s.withAxis_deeds i rfl rfl
    · exact .refl s

theorem State.cancelIndex_deeds (handle : Byte) : s.Deeds (s.cancelIndex handle).state :=
  s.onLocalAxis_deeds fun i => s.withAxis_deeds i rfl rfl

/-- The TRACK axes that INJECT_ENTRY takes (R39), as the statement says it. -/
theorem Settings.injectable_iff (cfg : Settings) (h : Handle) :
    cfg.injectable h = true ↔ match axisRef h with
      | .loc i => (cfg.axes.get i).kind = .track
      | .mir i => (cfg.mirrors.get i).lineAxis ≠ none ∧ (cfg.mirrors.get i).kind = .track := by
  unfold Settings.injectable
  cases axisRef h <;> simp [Option.isSome_iff_ne_none]

/-- INJECT_ENTRY offers on a TRACK axis alone (R39). -/
theorem Settings.injectable_track {cfg : Settings} {h : Handle} (e : cfg.injectable h = true) :
    (cfg.geometry h).kind = .track := by
  have track := (cfg.injectable_iff h).mp e
  unfold Settings.geometry
  cases ref : axisRef h <;> rw [ref] at track
  · exact track
  · exact track.2

theorem State.injectEntry_deeds (rotating : s.bus.station = .rotating) (requester : Station) (handle : Byte) (due : BitVec 32)
    (sequence : BitVec 16) (tagClass : BitVec 4) (forward : Bool) (action : Option Action) :
    s.Deeds (s.injectEntry requester handle due sequence tagClass forward action).state := by
  unfold State.injectEntry
  split
  · exact .refl s
  · split
    · rename_i suits
      exact State.OffersOn.offer ⟨rotating, .inl (Settings.injectable_track suits.1)⟩ s.works _
    · exact .refl s

theorem State.clearQueue_deeds (handle : Byte) : s.Deeds (s.clearQueue handle).state := by
  unfold State.clearQueue
  split
  · exact State.Deed.one (.emptied (.inl rfl) fun h => Bank.get_fill ..)
  · split
    · exact .refl s
    · exact State.handle_deeds rfl rfl (fun _ _ => ⟨rfl, rfl⟩) rfl (List.nil_sublist _) fun _ _ _ _ he => nomatch he

theorem State.pulseOutput_deeds (line : Byte) (width : BitVec 16) : s.Deeds (s.pulseOutput line width).state := by
  unfold State.pulseOutput
  split
  · exact .refl s
  · split
    · exact .refl s
    · split
      · exact .refl s
      · exact State.withWorks_deeds (by rw [Works.act_frame])

theorem State.perform_deeds (rotating : s.bus.station = .rotating) (requester : Station) (c : Cmd) :
    s.Deeds (s.perform requester c).state := by
  cases c with
  | readStatus page handle => exact (s.readStatus_state page handle).symm ▸ .refl s
  | readQueue handle index => exact (s.readQueue_state handle index).symm ▸ .refl s
  | trimCam ring entry position => exact s.trimCam_deeds ring entry position
  | trimRule rule offset => exact s.trimRule_deeds rule offset
  | trimWindow window lower upper => exact s.trimWindow_deeds window lower upper
  | armRule index arm start => exact s.armRule_deeds index arm
  | armRing index arm start => exact s.armRing_deeds index arm start
  | setOrigin handle value => exact s.setOrigin_deeds handle value
  | armIndex handle value => exact s.armIndex_deeds handle value
  | armIndexCancel handle => exact s.cancelIndex_deeds handle
  | injectEntry handle due sequence tagClass forward action =>
    exact s.injectEntry_deeds rotating requester handle due sequence tagClass forward action
  | clearQueue handle => exact s.clearQueue_deeds handle
  | clearCounts => exact State.withWorks_deeds rfl
  | pulseOutput line width => exact s.pulseOutput_deeds line width
  | restart => exact State.withCommand_deeds _
  | unfit code => exact .refl s
  | unknown code => exact .refl s

theorem State.execute_deeds (rotating : s.bus.station = .rotating) (requester : Station) (c : Cmd) :
    s.Deeds (s.execute requester c).state := by
  unfold State.execute
  split
  · exact .refl s
  · split
    · exact .refl s
    · split
      · exact .refl s
      · exact s.perform_deeds rotating requester c

theorem Answer.deliver_deeds (a : Answer) (requester : Station) (tid : Byte) (c : Cmd) :
    a.state.Deeds (a.deliver requester tid c) := by
  rw [Answer.deliver_eq]
  split <;> exact .quiet rfl rfl rfl rfl rfl

theorem State.takeCommand_deeds (requester : Station) (tid : Byte) (c : Cmd) : s.Deeds (s.takeCommand requester tid c) := by
  unfold State.takeCommand
  split
  · exact .refl s
  · rename_i rotating
    split
    · exact State.raise_deeds _
    · split
      · exact State.withWorks_deeds rfl
      · exact (s.execute_deeds (not_not.mp rotating) requester c).trans (Answer.deliver_deeds ..)

end Commands

/-! ### The roster -/

section Roster

variable (s : State)

theorem State.miss_deeds (j : Station) : s.Deeds (s.miss j) := by
  unfold State.miss
  dsimp only
  split
  · split
    · exact (State.withEntry_deeds _ _).trans (State.stalePublished_deeds _ _ _)
    · exact (State.withEntry_deeds _ _).trans ((State.raise_deeds _).trans
        ((State.stalePublished_deeds _ _ _).trans State.refreshLines_deeds))
  · exact .refl s

theorem State.countMisses_deeds (a : Option Station) (k : Station) : s.Deeds (s.countMisses a k) := by
  unfold State.countMisses
  split
  · exact .refl s
  · refine State.Deeds.foldl (fun s d => ?_) _ s
    dsimp only
    split
    · exact s.miss_deeds _
    · exact .refl s

theorem State.applyHeader_deeds (a : Option Station) (source : Station) (hold : Bool) : s.Deeds (s.applyHeader a source hold) :=
  (s.countMisses_deeds a source).trans ((State.withEntry_deeds _ _).trans State.refreshLines_deeds)

end Roster

/-! ### The items of a frame -/

section Items

variable (s : State)

theorem State.applyAxisItem_deeds (source : Station) (r : AxisReport) : s.Deeds (s.applyAxisItem source r).2 := by
  unfold State.applyAxisItem
  split
  · exact .refl s
  · split
    · exact State.raise_deeds _
    · split
      · exact .refl s
      · dsimp only
        split
        · exact State.raise_deeds _
        · split
          · exact State.raise_deeds _
          · exact s.applyReport_deeds _ r

theorem State.applyItem_deeds (source : Station) (taken : List (Fin 6)) (i : Item) : s.Deeds (s.applyItem source taken i).2 := by
  unfold State.applyItem
  split
  · split
    · exact State.raise_deeds _
    · exact s.applyAxisItem_deeds source _
  · split
    · exact State.raise_deeds _
    · split
      · rename_i rotating
        exact State.remoteTag_deeds rotating.1 _
      · exact .refl s
  · split
    · exact State.raise_deeds _
    · split
      · exact s.takeCommand_deeds source _ _
      · exact .refl s
  · exact .refl s

theorem State.applyItems_deeds (source : Station) (taken : List (Fin 6)) (l : List Item) :
    s.Deeds (s.applyItems source taken l).2 := by
  induction l generalizing s taken with
  | nil => exact .refl s
  | cons i rest ih => exact (s.applyItem_deeds source taken i).trans (ih _ _)

theorem State.applyBody_deeds (f : Frame) : s.Deeds (s.applyBody f) :=
  (s.applyItems_deeds _ _ _).trans (State.stalePublished_deeds _ _ _)

end Items

/-! ### The bus -/

section BusControl

variable (s : State)

/-- A station that joins keeps its entries. -/
theorem State.join_deeds : s.Deeds s.join :=
  State.Deed.one (.quiet rfl (.inr rfl) fun _ => ⟨rfl, rfl, rfl⟩)

theorem State.lockOut_deeds : s.Deeds s.lockOut :=
  State.Deed.one (.emptied (.inl rfl) fun _ => Bank.get_fill ..)

theorem Bus.record_station (b : Bus) (source : Station) : (b.record source).station = b.station := by
  unfold Bus.record
  split <;> rfl

theorem State.busSample_deeds (x : BusSample) : s.Deeds (s.busSample x) := by
  unfold State.busSample
  split
  · split
    · exact State.withBus_deeds rfl
    · exact .refl s
  · exact .refl s
  · refine State.withBus_deeds ?_
    split <;> rfl

theorem State.corruptFrame_deeds (idle : Nat) : s.Deeds (s.corruptFrame idle) :=
  (State.raise_deeds _).trans (State.withBus_deeds rfl)

theorem State.unjudgedFrame_deeds (idle : Nat) : s.Deeds (s.unjudgedFrame idle) := State.withBus_deeds rfl

theorem State.ownNumberFrame_deeds : s.Deeds s.ownNumberFrame := by
  unfold State.ownNumberFrame
  dsimp only
  split
  · exact State.withBus_deeds rfl
  · exact (State.lockOut_deeds _).after (State.withBus_deeds rfl)

theorem State.acceptFrame_deeds (f : Frame) : s.Deeds (s.acceptFrame f) := by
  unfold State.acceptFrame
  dsimp only
  refine State.Deeds.after ?_ (State.withWorks_deeds (s := s) (w := s.works.count framesReceived) rfl)
  refine (State.applyHeader_deeds _ s.bus.anchor f.source f.hold).trans ?_
  refine State.Deeds.after ?_ (State.withBus_deeds (Bus.record_station (Bus.frameEnded _ (some f.source) 0) f.source))
  split
  · split
    · exact (State.applyBody_deeds _ f).trans (State.join_deeds _)
    · refine State.draw_deeds.trans ?_
      split
      · exact (State.applyBody_deeds _ f).trans (State.join_deeds _)
      · exact (State.join_deeds _).trans (State.applyBody_deeds _ f)
  · exact State.applyBody_deeds _ f

theorem State.judgeFrame_deeds (bytes : List Byte) : s.Deeds (s.judgeFrame bytes) := by
  unfold State.judgeFrame
  split
  · exact s.corruptFrame_deeds 0
  · split
    · exact s.ownNumberFrame_deeds
    · exact s.acceptFrame_deeds _

theorem State.frameEnd_deeds (bytes : List Byte) : s.Deeds (s.frameEnd bytes) := by
  unfold State.frameEnd
  split
  · exact s.unjudgedFrame_deeds 0
  · exact s.unjudgedFrame_deeds 0
  · exact s.corruptFrame_deeds 0
  · dsimp only
    split
    · exact s.judgeFrame_deeds _
    · exact (s.judgeFrame_deeds _).trans (State.withBus_deeds rfl)

theorem State.idleEnd_deeds : s.Deeds s.idleEnd := by
  unfold State.idleEnd
  dsimp only
  split
  · exact s.unjudgedFrame_deeds _
  · exact s.unjudgedFrame_deeds _
  · exact s.corruptFrame_deeds _

theorem State.emptyBus_deeds : s.Deeds s.emptyBus := by
  unfold State.emptyBus
  split
  · exact (State.join_deeds _).after (State.withBus_deeds rfl)
  · exact .refl s

theorem State.startFrame_deeds : s.Deeds s.startFrame := by
  unfold State.startFrame
  split
  · exact State.withBus_deeds rfl
  · exact .refl s

theorem State.completeRoster_deeds (a : Option Station) (f : Flight) : s.Deeds (s.completeRoster a f) :=
  (State.withEntry_deeds _ _).trans ((State.countMisses_deeds _ _ _).trans State.refreshLines_deeds)

theorem State.completeFrame_deeds (f : Flight) : s.Deeds (s.completeFrame f) := by
  unfold State.completeFrame
  dsimp only
  refine State.Deeds.trans (t := (s.withBus { s.bus.frameEnded (some s.bus.number) 0 with flight := none, rxd := true }).withWorks
    (s.works.completeItems f)) (.quiet rfl rfl rfl rfl rfl) ?_
  split
  · exact (State.completeRoster_deeds _ _ f).after (State.withWorks_deeds rfl)
  · split
    · exact (State.completeRoster_deeds _ _ f).after (State.withWorks_deeds rfl)
    · exact State.draw_deeds.trans ((State.completeRoster_deeds _ _ f).trans (State.withWorks_deeds rfl))

/-- The settings and the lists that a station keeps. -/
def State.SameLists (s t : State) : Prop := t.cfg = s.cfg ∧ t.works.queues = s.works.queues

theorem State.restartMirror_lists (i : Fin 6) : s.SameLists (s.restartMirror i) := by
  unfold State.restartMirror
  dsimp only
  split
  · exact ⟨rfl, Works.stopsBeingActive_queues ..⟩
  · exact ⟨rfl, rfl⟩

theorem Works.recomputeAll_queues (w : Works) (env : Env) : (w.recomputeAll env).queues = w.queues := by
  rw [w.recomputeAll_frame env]

theorem State.restartMirrors_lists (l : List (Fin 6)) : s.SameLists (l.foldl (fun s i => s.restartMirror i) s) :=
  foldl_frame _ State.SameLists (fun _ => ⟨rfl, rfl⟩) (fun _ _ _ a b => ⟨b.1.trans a.1, b.2.trans a.2⟩)
    State.restartMirror_lists l s

/-- The lines and the windows of an emptied station are no concern of the queue. -/
theorem State.emptied_deeds {t : State} (cfg : t.cfg = s.cfg) (none : ∀ h, t.works.queues.get h = []) :
    s.Deeds (t.refreshLines.withWorks (t.refreshLines.works.recomputeAll t.refreshLines.env)) :=
  State.Deed.one (.emptied (.inl cfg) fun h => by rw [State.withWorks_works, Works.recomputeAll_queues]; exact none h)

theorem State.warmRestart_deeds : s.Deeds s.warmRestart := by
  unfold State.warmRestart
  dsimp only
  refine s.emptied_deeds (State.restartMirrors_lists _ _).1 fun h => ?_
  rw [(State.restartMirrors_lists _ _).2]
  exact Bank.get_fill ..

theorem State.complete_deeds : s.Deeds s.complete := by
  unfold State.complete
  split
  · exact .refl s
  · split
    · exact (s.completeFrame_deeds _).trans (State.warmRestart_deeds _)
    · exact s.completeFrame_deeds _

theorem State.abortFrame_deeds (x : Mismatch) : s.Deeds (s.abortFrame x) := by
  unfold State.abortFrame
  split
  · exact .refl s
  · refine (State.raise_deeds _).trans (State.withBus_deeds ?_)
    unfold Bus.abandon
    dsimp only
    split <;> rfl

end BusControl

/-! ### Start-up -/

section StartUp

variable (s : State)

theorem Settings.unconfigured_captures : Settings.unconfigured.CapturesOnTrack := by
  intro k edge
  simp [Settings.unconfigured] at edge

/-- A block without a failing check passes check 8 (R190). -/
theorem Block.passes8 {b : Block} {own : Station} (none : b.failing own = none) : b.fails8 b.settings = false := by
  have passes := List.find?_eq_none.mp (Option.map_eq_none_iff.mp none)
  simpa using passes (8, b.fails8 b.settings) (by simp [Block.checks])

/-- The sensors of such a block capture on TRACK handles. -/
theorem Block.captures_of_passes8 {b : Block} (passes : b.fails8 b.settings = false) : b.settings.CapturesOnTrack := by
  intro k edge h capture
  have setting : b.settings.sensors.get k = (b.sensors.get k).settings := Bank.get_tabulate ..
  rw [setting] at edge capture
  have record := List.any_eq_false.mp passes k (List.mem_finRange k)
  have used : (b.sensors.get k).edge ≠ 0 := fun zero => edge (by simp [SensorRecord.settings, zero])
  have named : handleByte (b.sensors.get k).capture = some h := capture
  simp only [Settings.byteIsTrack, named, Bool.or_eq_true, Bool.and_eq_true, decide_eq_true_eq, Bool.not_eq_true', not_or,
    not_and, Bool.not_eq_false] at record
  exact record.2 used

theorem State.cold_deeds : s.Deeds s.cold :=
  State.Deed.one (.emptied (.inr Settings.unconfigured_captures) fun _ => Bank.get_fill ..)

theorem State.coldReset_deeds (number : Station) (rate : BitVec 2) : s.Deeds (s.coldReset number rate) :=
  State.Deed.one (.emptied (.inr Settings.unconfigured_captures) fun _ => Bank.get_fill ..)

theorem State.degrade_deeds (loading : s.bus.station = .loading) (check : Nat) : s.Deeds (s.degrade check) :=
  State.Deed.one (.loaded loading (.inl rfl) rfl)

theorem State.configure_deeds (loading : s.bus.station = .loading) {c : Settings} (captures : c.CapturesOnTrack) :
    s.Deeds (s.configure c) :=
  State.Deed.one (.loaded loading (.inr captures) (Works.recomputeAll_queues ..))

theorem State.judgePass_deeds (loading : s.bus.station = .loading) (memory : List Byte) (miso : Bool) :
    s.Deeds (s.judgePass memory miso) := by
  unfold State.judgePass
  split
  · split
    · exact .quiet rfl rfl rfl rfl rfl
    · exact s.degrade_deeds loading 1
  · dsimp only
    split
    · exact s.degrade_deeds loading _
    · rename_i none
      exact s.configure_deeds loading (Block.captures_of_passes8 (Block.passes8 none))

end StartUp

/-! ### The clock -/

section Clock

variable (s : State)

theorem Bus.tick_station (b : Bus) : b.tick.station = b.station := by
  unfold Bus.tick
  split_ifs <;> rfl

theorem State.advanceClock_deeds : s.Deeds s.advanceClock := by
  refine .quiet rfl ?_ rfl rfl rfl
  unfold State.advanceClock
  dsimp only
  split
  · exact Bus.tick_station _
  · rfl

theorem Works.expire_queues (w : Works) (q : Fin 8) : (w.expire q).queues = w.queues := by
  rw [w.expire_frame q]

theorem State.sound_deeds (a : Alarm) : s.Deeds (s.sound a) := by
  cases a with
  | pulse q => exact State.withWorks_deeds (Works.expire_queues _ q)
  | sensor k => exact s.qualifyPending_deeds k
  | holdIn => exact s.holdInQualified_deeds
  | frameEnd => exact s.idleEnd_deeds
  | emptyBus => exact s.emptyBus_deeds
  | wait => exact s.startFrame_deeds

theorem State.soundAll_deeds (l : List Alarm) : s.Deeds (s.soundAll l) :=
  .foldl (fun s a => by
    split
    · exact s.sound_deeds a
    · exact .refl s) l s

theorem State.tick_deeds : s.Deeds s.tick := by
  unfold State.tick
  split
  · exact .refl s
  · exact s.advanceClock_deeds.trans ((State.withWorks_deeds (by rw [Works.arrange_works])).trans (State.soundAll_deeds _ _))

end Clock

/-! ### The rows -/

/-- Whatever row brought it, a command completes as a chain of deeds. -/
theorem exec_deeds (i : Instr) (s : State) : ∃ t, exec i s = .next t ∧ s.Deeds t := by
  cases i with
  | coldReset number rate => exact ⟨_, rfl, s.coldReset_deeds number rate⟩
  | readPass memory miso =>
    refine ⟨_, rfl, ?_⟩
    split
    · rename_i reading
      exact s.judgePass_deeds reading.2 memory miso
    · exact .refl s
  | quad4Edge axis a b => exact ⟨_, rfl, s.sampleAB_deeds axis a b⟩
  | pulseDirEdge axis a b => exact ⟨_, rfl, s.sampleAB_deeds axis a b⟩
  | upDownEdge axis a b => exact ⟨_, rfl, s.sampleAB_deeds axis a b⟩
  | risingZEdge axis z => exact ⟨_, rfl, s.sampleZ_deeds axis z⟩
  | timedPulseExpiry line => exact ⟨_, rfl, State.withWorks_deeds (Works.expire_queues _ line)⟩
  | sensorPinChange sensor level => exact ⟨_, rfl, s.sensorSample_deeds sensor level⟩
  | qualifiedChange sensor => exact ⟨_, rfl, s.qualifyPending_deeds sensor⟩
  | holdInChange level => exact ⟨_, rfl, State.withHoldIn_deeds _⟩
  | holdInQualify => exact ⟨_, rfl, s.holdInQualified_deeds⟩
  | startBit sample => exact ⟨_, rfl, s.busSample_deeds sample⟩
  | receiveFrame bytes =>
    refine ⟨_, rfl, ?_⟩
    split
    · exact s.frameEnd_deeds bytes
    · exact .refl s
  | frameEndByIdle =>
    refine ⟨_, rfl, ?_⟩
    split
    · exact s.idleEnd_deeds
    · exact .refl s
  | emptyBus => exact ⟨_, rfl, s.emptyBus_deeds⟩
  | waitExpiry => exact ⟨_, rfl, s.startFrame_deeds⟩
  | completion => exact ⟨_, rfl, s.complete_deeds⟩
  | abort mismatch => exact ⟨_, rfl, s.abortFrame_deeds mismatch⟩
  | resetNAsserted => exact ⟨_, rfl, s.cold_deeds⟩
  | _ => exact ⟨_, rfl, s.takeCommand_deeds ..⟩

/-- Every step is a chain of deeds. -/
theorem step_deeds {s t : State} (e : step s = .next t) : s.Deeds t := by
  unfold step at e
  split at e
  · cases e
    exact s.tick_deeds
  · rename_i c rest _
    have popped : s.Deeds { s with pending := rest } := .quiet rfl rfl rfl rfl rfl
    obtain ⟨u, eq, deeds⟩ := exec_deeds c { s with pending := rest }
    cases eq.symm.trans e
    exact popped.trans deeds

end Sys2Proof.Machine
end

section
/-! What every step keeps of the trigger queue: at most 64 entries with distinct keys (R23), each strictly ahead of its axis while
that one is ACTIVE (R26). -/

namespace Sys2Proof.Machine

/-! ### What an offer leaves of the lists -/

/-- An offer that finds its entry ahead and room for it stores the entry; any other leaves the lists (R27). -/
theorem Works.offer_queues (w : Works) (env : Env) (h : Handle) (e : Entry) :
    (w.offer env h e).2.queues = w.queues ∨
    (w.keyHeld e = false ∧ w.entriesHeld < 64 ∧ isAhead e.due (env.position h) = true ∧
      (w.offer env h e).2.queues =
        w.queues.put h (insertEntry (env.position h) { e with stamp := w.nextStamp } (w.queues.get h))) := by
  unfold Works.offer
  dsimp only
  split_ifs with unusable epoch held ahead room late
  case pos => exact .inl rfl
  case pos => exact .inl rfl
  case pos => exact .inl rfl
  case pos => exact .inr ⟨by simpa using held, room, ahead, rfl⟩
  case neg => exact .inl rfl
  case pos => exact .inl (by rw [Works.lateFire_frame])
  case neg => exact .inl rfl

/-! ### What every step keeps -/

/-- The bounds of R23, by the lists alone. -/
theorem State.QueueSound.of_sublist {s t : State} (fewer : ∀ h, (t.works.queues.get h).Sublist (s.works.queues.get h))
    (sound : s.QueueSound) : t.QueueSound :=
  have sub := Works.entries_sublist fewer
  ⟨sub.length_le.trans sound.1, sound.2.sublist sub⟩

/-- An entry with a new key that finds room (R23). -/
theorem State.QueueSound.of_insert {s t : State} {h : Handle} {e : Entry} {p : Pos} (fresh : s.works.keyHeld e = false)
    (room : s.works.entriesHeld < 64)
    (queues : t.works.queues = s.works.queues.put h (insertEntry p e (s.works.queues.get h))) (sound : s.QueueSound) :
    t.QueueSound := by
  have perm : t.works.entries.Perm (e :: s.works.entries) :=
    Works.entries_cons (fun k ne => by rw [queues, Bank.get_put_ne _ _ ne.symm])
      (by rw [queues, Bank.get_put_self]; exact insertEntry_perm ..)
  rw [Works.entriesHeld_eq] at room
  refine ⟨by rw [perm.length_eq]; exact room, (perm.pairwise_iff fun {a b} ab => (a.sameKey_symm b) ▸ ab).mpr ?_⟩
  refine List.pairwise_cons.mpr ⟨fun x hx => ?_, sound.2⟩
  obtain ⟨k, hk⟩ := (s.works.mem_entries x).mp hx
  rw [Entry.sameKey_symm]
  exact Bool.eq_false_iff.mpr fun same => Bool.eq_false_iff.mp fresh ((s.works.keyHeld_iff e).mpr ⟨k, x, hk, same⟩)

theorem State.Deed.keeps_queueSound {s t : State} (d : s.Deed t) (sound : s.QueueSound) : t.QueueSound := by
  cases d with
  | quiet _ _ same => exact .of_sublist (fun h => (same h).entries ▸ .refl _) sound
  | emptied _ none => exact .of_sublist (fun h => none h ▸ List.nil_sublist _) sound
  | loaded _ _ queues => exact .of_sublist (fun h => queues ▸ .refl _) sound
  | handle h _ _ others fewer _ =>
    refine .of_sublist (fun k => ?_) sound
    by_cases e : k = h
    · exact e ▸ fewer
    · exact (others k e).entries ▸ .refl _
  | offer h e _ eq =>
    subst eq
    rcases s.works.offer_queues s.env h e with same | ⟨fresh, room, -, queues⟩
    · exact .of_sublist (fun k => by rw [State.withWorks_works, same]) sound
    · exact .of_insert (e := { e with stamp := s.works.nextStamp }) fresh room queues sound

/-- Settles O56: every deed keeps the bounds, and every step is a chain of deeds. -/
theorem stepKeepsQueue : Obligations.StepKeepsQueue := fun _ _ sound step =>
  (step_deeds step).keeps (fun _ _ deed => deed.keeps_queueSound) sound

section EntriesAhead

variable {s t : State}

theorem State.EntriesAhead.captures (sound : s.EntriesAhead) (cfg : t.cfg = s.cfg ∨ t.cfg.CapturesOnTrack) :
    t.cfg.CapturesOnTrack := by
  obtain ⟨-, -, captures, -⟩ := sound
  rcases cfg with cfg | new
  · exact cfg ▸ captures
  · exact new

/-- An empty queue has nothing to hold ahead. -/
theorem State.EntriesAhead.of_empty (captures : t.cfg.CapturesOnTrack) (none : ∀ h, t.works.queues.get h = []) : t.EntriesAhead :=
  ⟨fun _ => none, fun h some => absurd (none h) some, captures, fun h _ e he => by rw [none h] at he; cases he⟩

theorem State.EntriesAhead.of_same (sound : s.EntriesAhead) (cfg : t.cfg = s.cfg)
    (station : t.bus.station = s.bus.station ∨ t.bus.station = .rotating) (same : ∀ h, s.SameHandle t h) : t.EntriesAhead := by
  obtain ⟨rotating, track, captures, ahead⟩ := sound
  refine ⟨fun off h => ?_, fun h some => cfg ▸ track h ((same h).entries ▸ some), cfg ▸ captures, fun h active e he => ?_⟩
  · rcases station with station | joined
    · exact (same h).entries ▸ rotating (station ▸ off) h
    · exact absurd joined off
  · rw [(same h).position]
    exact ahead h ((same h).active ▸ active) e ((same h).entries ▸ he)

/-- When one handle changes, its own list is to be looked at. -/
theorem State.EntriesAhead.of_handle (sound : s.EntriesAhead) (h : Handle) (cfg : t.cfg = s.cfg)
    (station : t.bus.station = s.bus.station) (others : ∀ k, k ≠ h → s.SameHandle t k)
    (off : s.bus.station ≠ .rotating → t.works.queues.get h = [])
    (kind : t.works.queues.get h ≠ [] → (s.cfg.geometry h).kind = .track) (due : t.Ahead h) : t.EntriesAhead := by
  obtain ⟨rotating, track, captures, ahead⟩ := sound
  refine ⟨fun away k => ?_, fun k some => ?_, cfg ▸ captures, fun k active e he => ?_⟩
  all_goals rcases eq_or_ne k h with rfl | ne
  · exact off (station ▸ away)
  · exact (others k ne).entries ▸ rotating (station ▸ away) k
  · exact cfg ▸ kind some
  · exact cfg ▸ track k ((others k ne).entries ▸ some)
  · exact due active e he
  · rw [(others k ne).position]
    exact ahead k ((others k ne).active ▸ active) e ((others k ne).entries ▸ he)

/-- Entries are offered on TRACK axes alone (R25, R44). -/
theorem State.OffersOn.track {h : Handle} (on : s.OffersOn h) (captures : s.cfg.CapturesOnTrack) :
    (s.cfg.geometry h).kind = .track := by
  rcases on.suits with kind | ⟨k, edge, capture⟩
  · exact kind
  · have used := captures k edge h capture
    simp only [Settings.isTrack, Bool.and_eq_true, decide_eq_true_eq] at used
    exact used.2

theorem State.Deed.keeps_entriesAhead (d : s.Deed t) (sound : s.EntriesAhead) : t.EntriesAhead := by
  obtain ⟨rotating, track, captures, ahead⟩ := id sound
  cases d with
  | quiet cfg station same => exact sound.of_same cfg station same
  | emptied cfg none => exact .of_empty (sound.captures cfg) none
  | loaded loading cfg queues =>
    exact .of_empty (sound.captures cfg) fun h => queues ▸ rotating (by rw [loading]; decide) h
  | handle h cfg station others fewer moves =>
    have kind (some : t.works.queues.get h ≠ []) : (s.cfg.geometry h).kind = .track :=
      track h fun none => some (List.sublist_nil.mp (none ▸ fewer))
    exact sound.of_handle h cfg station others (fun off => List.sublist_nil.mp (rotating off h ▸ fewer)) kind
      fun active e he => moves (kind (List.ne_nil_of_mem he)) (ahead h) active e he
  | offer h e on eq =>
    subst eq
    rcases s.works.offer_queues s.env h e with same | ⟨-, -, due, queues⟩
    · exact sound.of_same rfl (.inl rfl) fun k => ⟨rfl, rfl, by rw [State.withWorks_works, same]⟩
    · refine sound.of_handle h rfl rfl (fun k ne => ⟨rfl, rfl, ?_⟩) (absurd on.rotating) (fun _ => on.track captures)
        fun active x hx => ?_
      · rw [State.withWorks_works, queues, Bank.get_put_ne _ _ ne.symm]
      · rw [State.withWorks_works, queues, Bank.get_put_self] at hx
        rcases List.mem_cons.mp ((insertEntry_perm ..).mem_iff.mp hx) with rfl | old
        · exact due
        · exact ahead h active x old

end EntriesAhead

/-- Settles O60: every deed keeps the entries ahead, and every step is a chain of deeds. -/
theorem stepKeepsEntriesAhead : Obligations.StepKeepsEntriesAhead := fun _ _ ahead step =>
  (step_deeds step).keeps (fun _ _ deed => deed.keeps_entriesAhead) ahead

end Sys2Proof.Machine
end

section
/-! Offers to the trigger queue (R24, R27) and the console commands that concern it (R39 to R41, R180, R181). -/

namespace Sys2Proof.Machine

/-! ### Offers -/

/-- Settles O20, from the place that the insertion finds: what follows it in an ordered list is all farther ahead. -/
theorem insertionOrder : Obligations.InsertionOrder := by
  intro p e l ordered
  obtain ⟨before, after, rfl, eq, low, head⟩ := insertEntry_split p e l
  obtain ⟨orderedBefore, orderedAfter, across⟩ := List.pairwise_append.mp ordered
  have high : ∀ x ∈ after, e.distanceAhead p < x.distanceAhead p := by
    intro x hx
    cases after with
    | nil => cases hx
    | cons y ys =>
      have first := head y rfl
      rcases List.mem_cons.mp hx with rfl | later
      · exact first
      · exact first.trans_le (List.rel_of_pairwise_cons orderedAfter later)
  refine ⟨?_, before, after, rfl, eq, low, high⟩
  rw [eq]
  refine List.pairwise_append.mpr
    ⟨orderedBefore, List.pairwise_cons.mpr ⟨fun x hx => (high x hx).le, orderedAfter⟩, fun x hx y hy => ?_⟩
  rcases List.mem_cons.mp hy with rfl | later
  · exact low x hx
  · exact across x hx y later

/-- The lateness of an entry at or behind the axis is its distance behind (R29). -/
theorem Entry.lateness_eq {e : Entry} {p : Pos} (behind : isAhead e.due p = false) :
    (e.lateness p : Int) = -signedDifference e.due p := by
  have notAhead := mt (isAhead_iff e.due p).mpr (by simp [behind])
  have bound := (e.due - p).isLt
  have back : (p - e.due).toNat = (4294967296 - (e.due - p).toNat) % 4294967296 := by
    simpa using toNat_sub_third p p e.due
  rw [Entry.lateness, back, signedDifference_eq]
  split <;> omega

section Offers

variable {w : Works} {env : Env} {h : Handle} {e : Entry}

/-- The axis takes offers: a local one while ACTIVE, a mirror unless REMOTE_FAULT (R28). -/
theorem Env.unusable_iff (env : Env) (h : Handle) :
    env.unusable h = true ↔ ¬(match axisRef h with
      | .loc i => (env.axes.get i).state = .active
      | .mir i => (env.mirrors.get i).state ≠ .remoteFault) := by
  unfold Env.unusable
  cases axisRef h <;> simp

/-- The entry with the key of `e` that is held, as R23 says it. -/
theorem Works.keyHeld_iff_parts : w.keyHeld e = true ↔
    ∃ h' x, x ∈ w.queues.get h' ∧ x.origin = e.origin ∧ x.sequence = e.sequence ∧ x.source = e.source := by
  simp only [Works.keyHeld_iff, Entry.sameKey_iff]

theorem Works.offer_unmapped (unusable : env.unusable h = true) : w.offer env h e = (.unmapped, w.raise env .unmapped) :=
  if_pos unusable

theorem Works.offer_epochDiscard (usable : ¬env.unusable h = true) (other : e.epoch ≠ env.epoch h) :
    w.offer env h e = (.epochDiscard, w.raise env .epochDiscard) := by
  rw [Works.offer, if_neg usable, if_pos other]

theorem Works.offer_duplicate (usable : ¬env.unusable h = true) (epoch : e.epoch = env.epoch h) (held : w.keyHeld e = true) :
    w.offer env h e = (.duplicate, w.raise env .duplicate) := by
  rw [Works.offer, if_neg usable, if_neg (not_not.mpr epoch), if_pos held]

section New

variable (usable : ¬env.unusable h = true) (epoch : e.epoch = env.epoch h) (new : ¬w.keyHeld e = true)

include usable epoch new

theorem Works.offer_inserted (ahead : isAhead e.due (env.position h) = true) (room : w.entriesHeld < 64) :
    w.offer env h e = (.inserted,
      { w with
        queues := w.queues.put h (insertEntry (env.position h) { e with stamp := w.nextStamp } (w.queues.get h))
        nextStamp := w.nextStamp + 1 }) := by
  rw [Works.offer, if_neg usable, if_neg (not_not.mpr epoch), if_neg new, if_pos ahead, if_pos room]

theorem Works.offer_queueFull (ahead : isAhead e.due (env.position h) = true) (full : ¬w.entriesHeld < 64) :
    w.offer env h e = (.queueFull, w.raise env .queueFull) := by
  rw [Works.offer, if_neg usable, if_neg (not_not.mpr epoch), if_neg new, if_pos ahead, if_neg full]

theorem Works.offer_lateFired (behind : ¬isAhead e.due (env.position h) = true)
    (late : e.lateness (env.position h) ≤ env.cfg.lateTolerance) :
    w.offer env h e = (.lateFired, w.lateFire env h e) := by
  rw [Works.offer, if_neg usable, if_neg (not_not.mpr epoch), if_neg new, if_neg behind, if_pos late]

theorem Works.offer_lateDrop (behind : ¬isAhead e.due (env.position h) = true)
    (late : ¬e.lateness (env.position h) ≤ env.cfg.lateTolerance) :
    w.offer env h e = (.lateDrop, w.raise env .lateDrop) := by
  rw [Works.offer, if_neg usable, if_neg (not_not.mpr epoch), if_neg new, if_neg behind, if_neg late]

end New

end Offers

/-- Settles O18, by the steps of R27 in their order. -/
theorem offerDecided : Obligations.OfferDecided := by
  intro w env h e p usable held
  have unusable : ¬usable ↔ env.unusable h = true := (env.unusable_iff h).symm
  have usable' (u : usable) : ¬env.unusable h = true := fun x => unusable.mpr x u
  have key : held ↔ w.keyHeld e = true := Works.keyHeld_iff_parts.symm
  refine ⟨fun off => Works.offer_unmapped (unusable.mp off), fun u other => Works.offer_epochDiscard (usable' u) other,
    fun u epoch same => Works.offer_duplicate (usable' u) epoch (key.mp same),
    fun u epoch new ahead room => Works.offer_inserted (usable' u) epoch (mt key.mpr new) ahead (w.entriesHeld_eq ▸ room),
    fun u epoch new ahead full =>
      Works.offer_queueFull (usable' u) epoch (mt key.mpr new) ahead (w.entriesHeld_eq ▸ Nat.not_lt.mpr full),
    fun u epoch new behind => ?_⟩
  have behind' : ¬isAhead e.due (env.position h) = true := Bool.eq_false_iff.mp behind
  have lateness : (e.lateness (env.position h) : Int) = -signedDifference e.due p := Entry.lateness_eq behind
  exact ⟨fun within => Works.offer_lateFired (usable' u) epoch (mt key.mpr new) behind' (by omega),
    fun beyond => Works.offer_lateDrop (usable' u) epoch (mt key.mpr new) behind' (by omega)⟩

/-! ### READ_QUEUE, INJECT_ENTRY, CLEAR_QUEUE, CLEAR_COUNTS and RESTART -/

section Rows

variable (s : State) (requester : Station) (tid handle index : Byte)

theorem exec_readQueue : exec (.readQueue requester tid handle index) s =
    .next (s.takeCommand requester tid (.readQueue handle index)) := rfl
theorem exec_injectEntry (due : BitVec 32) (sequence : BitVec 16) (tagClass : BitVec 4) (forward : Bool)
    (action : Option Action) : exec (.injectEntry requester tid handle due sequence tagClass forward action) s =
    .next (s.takeCommand requester tid (.injectEntry handle due sequence tagClass forward action)) := rfl
theorem exec_clearQueue : exec (.clearQueue requester tid handle) s =
    .next (s.takeCommand requester tid (.clearQueue handle)) := rfl
theorem exec_clearCounts : exec (.clearCounts requester tid) s = .next (s.takeCommand requester tid .clearCounts) := rfl
theorem exec_restart : exec (.restart requester tid) s = .next (s.takeCommand requester tid .restart) := rfl

end Rows

/-- Byte 0 of an entry (section 8.10): forward, hop and origin stand in bits of their own. -/
theorem forward_hop_origin : ∀ (forward : Bool) (hop : BitVec 2) (origin : Station),
    (bit forward <<< 7) ||| (hop.zeroExtend 8 <<< 5) ||| origin.zeroExtend 8 =
      BitVec.ofNat 8 ((if forward then 128 else 0) + 32 * hop.toNat + origin.toNat) := by decide

/-- Byte 3: class and epoch. -/
theorem class_epoch : ∀ tagClass epoch : BitVec 4,
    (tagClass.zeroExtend 8 <<< 4) ||| epoch.zeroExtend 8 = BitVec.ofNat 8 (16 * tagClass.toNat + epoch.toNat) := by decide

/-- The twelve bytes of an entry, as section 8.10 lays them out. -/
theorem Entry.bytes_eq (e : Entry) :
    e.bytes = [BitVec.ofNat 8 ((if e.forward then 128 else 0) + 32 * e.hop.toNat + e.origin.toNat)] ++
      bytes16 e.sequence ++
      [BitVec.ofNat 8 (16 * e.tagClass.toNat + e.epoch.toNat),
        match e.source with
          | .rule k => BitVec.ofNat 8 k.val
          | .injected => 8] ++
      bytes32 e.due ++ actionBytes e.action := by
  rw [Entry.bytes, forward_hop_origin, class_epoch]
  cases e.source <;> rfl

section QueueCommands

variable {s : State} {handle : Byte} {h : Handle}

theorem State.readQueue_some {index : Byte} {e : Entry} (named : h.val = handle.toNat)
    (there : (s.works.queues.get h)[index.toNat]? = some e) : s.readQueue handle index = ⟨.ok, e.bytes, s⟩ := by
  simp only [State.readQueue, handleOf_some named, there]

theorem State.readQueue_none {index : Byte} (named : h.val = handle.toNat)
    (beyond : (s.works.queues.get h).length ≤ index.toNat) : s.readQueue handle index = refuse .badParam s := by
  simp only [State.readQueue, handleOf_some named, List.getElem?_eq_none beyond]

theorem State.readQueue_beyond {index : Byte} (beyond : 8 ≤ handle.toNat) : s.readQueue handle index = refuse .badParam s := by
  simp only [State.readQueue, handleOf_none beyond]

theorem State.clearQueue_one (named : h.val = handle.toNat) :
    s.clearQueue handle = ⟨.ok, [BitVec.ofNat 8 (s.works.queues.get h).length], s.withWorks (s.works.clearHandle h)⟩ := by
  have below : handle ≠ 0xFF := fun all => by rw [all] at named; exact absurd h.isLt (by rw [named]; decide)
  rw [State.clearQueue, if_neg below, handleOf_some named]
  rfl

theorem State.clearQueue_all (s : State) :
    s.clearQueue 0xFF = ⟨.ok, [BitVec.ofNat 8 s.works.entries.length], s.withWorks s.works.clearHandles⟩ := by
  rw [State.clearQueue, if_pos rfl, Works.entriesHeld_eq]
  rfl

theorem State.clearQueue_beyond (beyond : 8 ≤ handle.toNat) (one : handle ≠ 0xFF) :
    s.clearQueue handle = refuse .badParam s := by
  rw [State.clearQueue, if_neg one, handleOf_none beyond]

end QueueCommands

/-- Settles O44, by whether the handle has an entry at the place. -/
theorem readQueueAnswers : Obligations.ReadQueueAnswers := by
  intro s requester tid handle index x
  have reads {a : Answer} (e : s.readQueue handle index = a) (c : a.result.counted = true) :
      exec (.readQueue requester tid handle index) s = .next (a.state.answered ⟨requester, tid, 2, a.result, a.data⟩) := by
    rw [exec_readQueue, x.answers (c := .readQueue handle index) e c]; rfl
  refine ⟨fun h named e there => ⟨e.bytes, reads (State.readQueue_some named there) rfl, e.bytes_eq⟩, ?_⟩
  rintro (beyond | ⟨h, named, beyond⟩)
  · exact reads (State.readQueue_beyond beyond) rfl
  · exact reads (State.readQueue_none named beyond) rfl

/-- Settles O50, each command by its own effect. -/
theorem clearsAndRestart : Obligations.ClearsAndRestart := by
  refine ⟨⟨fun s requester tid handle x => ?_, fun s requester tid x => ?_⟩, fun s requester tid x => ?_⟩
  · have clears {a : Answer} (e : s.clearQueue handle = a) (c : a.result.counted = true) :
        exec (.clearQueue requester tid handle) s =
          .next (a.state.answered ⟨requester, tid, 0x0A, a.result, a.data⟩) := by
      rw [exec_clearQueue, x.answers (c := .clearQueue handle) e c]; rfl
    refine ⟨fun h named => clears (State.clearQueue_one named) rfl, ?_, fun beyond one =>
      clears (State.clearQueue_beyond beyond one) rfl⟩
    rintro rfl
    exact ⟨Bank.fill [], fun h => Bank.get_fill .., clears s.clearQueue_all rfl⟩
  · refine ⟨(Bank.fill 0 : Bank Nat 19).put 18 1, fun k other => ?_, Bank.get_put_self .., ?_⟩
    · rw [Bank.get_put_ne _ _ other.symm, Bank.get_fill]
    · rw [exec_clearCounts, x.answers (c := .clearCounts) rfl rfl]
      rfl
  · rw [exec_restart, x.answers (c := .restart) rfl rfl]
    rfl

/-- The action that INJECT_ENTRY may carry (R39), as the statement says it. -/
theorem Settings.admitsAction_iff (cfg : Settings) (action : Option Action) :
    cfg.admitsAction action = true ↔ ∀ a, action = some a →
      (cfg.outputs.get a.line).mode = .action ∧ a.operation ≠ .pulseTime 0 ∧ a.operation ≠ .pulseDist 0 := by
  cases action with
  | none => simp [Settings.admitsAction]
  | some a =>
    obtain ⟨line, operation⟩ := a
    cases operation <;> simp [Settings.admitsAction, emptyPulse]

/-- An entry of the current epoch is not discarded for its epoch. -/
theorem Works.offer_current {w : Works} {env : Env} {h : Handle} {e : Entry} (epoch : e.epoch = env.epoch h) :
    (w.offer env h e).1 ≠ .epochDiscard := by
  unfold Works.offer
  dsimp only
  split_ifs with unusable other
  case pos => exact nofun
  case pos => exact absurd epoch other
  all_goals exact nofun

section Inject

variable {s : State} {requester : Station} {handle : Byte} {h : Handle} {due : BitVec 32} {sequence : BitVec 16}
  {tagClass : BitVec 4} {forward : Bool} {action : Option Action}

theorem State.injectEntry_offers (named : h.val = handle.toNat) (suits : s.cfg.injectable h = true)
    (acts : s.cfg.admitsAction action = true) :
    s.injectEntry requester handle due sequence tagClass forward action =
      ⟨(s.works.offer s.env h (s.injectedEntry requester h due sequence tagClass forward action)).1.result, [],
        s.withWorks (s.works.offer s.env h (s.injectedEntry requester h due sequence tagClass forward action)).2⟩ := by
  simp only [State.injectEntry, handleOf_some named, suits, acts, and_self, if_true]

theorem State.injectEntry_unfit
    (unfit : (∀ h : Handle, h.val = handle.toNat → ¬s.cfg.injectable h = true) ∨ ¬s.cfg.admitsAction action = true) :
    s.injectEntry requester handle due sequence tagClass forward action = refuse .badParam s := by
  unfold State.injectEntry
  split
  · rfl
  · rename_i h e
    have named : h.val = handle.toNat := by
      unfold handleOf at e
      split at e
      · cases e; rfl
      · cases e
    rw [if_neg]
    rintro ⟨suits, acts⟩
    rcases unfit with off | none
    · exact off h named suits
    · exact none acts

end Inject

/-- Every outcome of an offer gives INJECT_ENTRY a result that counts. -/
theorem OfferOutcome.result_counted (o : OfferOutcome) : o.result.counted = true := by
  cases o <;> rfl

/-- Settles O49, by the two checks and then the outcome of the offer. -/
theorem injectEntryOffers : Obligations.InjectEntryOffers := by
  intro s requester tid handle due sequence tagClass forward action x suits acts
  have injects {a : Answer} (e : s.injectEntry requester handle due sequence tagClass forward action = a)
      (c : a.result.counted = true) : exec (.injectEntry requester tid handle due sequence tagClass forward action) s =
        .next (a.state.answered ⟨requester, tid, 9, a.result, a.data⟩) := by
    rw [exec_injectEntry, x.answers (c := .injectEntry handle due sequence tagClass forward action) e c]; rfl
  have suits_iff (h : Handle) : s.cfg.injectable h = true ↔ suits h := s.cfg.injectable_iff h
  have acts_iff : s.cfg.admitsAction action = true ↔ acts := s.cfg.admitsAction_iff action
  refine ⟨fun h named on carried => ?_, fun unfit => injects (State.injectEntry_unfit ?_) rfl⟩
  · intro r
    refine ⟨r.1.result, injects (State.injectEntry_offers named ((suits_iff h).mpr on) (acts_iff.mpr carried))
      (OfferOutcome.result_counted _), ?_, ?_, ?_, ?_, Works.offer_current rfl⟩
    · rintro (e | e) <;> rw [e] <;> rfl
    · intro e; rw [e]; rfl
    · rintro (e | e) <;> rw [e] <;> rfl
    · intro e; rw [e]; rfl
  · simpa only [suits_iff, acts_iff] using unfit

end Sys2Proof.Machine
end

section
/-! Late fires (R29) and position events (R7): what the entries that leave raise and forward, what reaches the lines, and what the
other consumers take of the move. -/

namespace Sys2Proof.Machine

/-! ### Entries that leave: notices and forwardings (R33, R34, R54, R65) -/

section Leaving

@[simp] theorem counter_lateFire : NoticeKind.lateFire.counter = 2 := rfl
@[simp] theorem counter_missed : NoticeKind.missed.counter = 4 := rfl
@[simp] theorem counter_suppressed : NoticeKind.suppressed.counter = 5 := rfl
@[simp] theorem counter_txFull : NoticeKind.txFull.counter = 8 := rfl

variable (w : Works) (env : Env) (h : Handle)

/-- An entry that may be forwarded (R65). -/
def Entry.forwards (e : Entry) : Bool := e.forward && decide (e.hop ≠ 3)

/-- The TAG item that forwards an entry of the line axis `id` (R65). -/
def Entry.forwarding (e : Entry) (id : BitVec 6) : Tag := ⟨e.origin, e.sequence, e.tagClass, e.hop + 1, id, e.epoch, e.due⟩

theorem Entry.forwards_iff (e : Entry) : e.forwards = true ↔ e.forward = true ∧ e.hop ≠ 3 := by
  simp [Entry.forwards]

theorem Works.forwardTag_not {e : Entry} (stays : ¬e.forwards = true) : w.forwardTag env h e = w :=
  if_neg fun may => stays (e.forwards_iff.mpr may)

theorem Works.forwardTag_some {e : Entry} {id : BitVec 6} (axis : env.lineAxis h = some id) (may : e.forwards = true) :
    w.forwardTag env h e = w.offerTag env (e.forwarding id) := by
  rw [Works.forwardTag, if_pos (e.forwards_iff.mp may), axis]
  rfl

/-- The blocks as an entry that leaves hands over its forwarding: in HOLD, SUPPRESSED has been raised. -/
def Works.suppress (w : Works) (env : Env) : Works := if env.run then w else w.raise env .suppressed

theorem Works.leave_eq (e : Entry) : w.leave env h e = (w.suppress env).forwardTag env h e := rfl

theorem Works.suppress_txQueue : (w.suppress env).txQueue = w.txQueue := by
  unfold Works.suppress
  split <;> rfl

theorem Works.suppress_tagsHeld : (w.suppress env).tagsHeld = w.tagsHeld := by
  unfold Works.tagsHeld
  rw [w.suppress_txQueue env]

theorem Works.suppress_counters (j : Fin 19) :
    (w.suppress env).notices.counters.get j =
      if env.run = false ∧ j = 5 then countUp (w.notices.counters.get 5) else w.notices.counters.get j := by
  unfold Works.suppress
  cases env.run
  · simp only [Bool.false_eq_true, if_false, true_and, Works.raise_notices, Notices.raise_counters]
    exact if_congr eq_comm rfl rfl
  · simp

theorem Works.offerTag_room {t : Tag} (room : w.tagsHeld < 12) :
    w.offerTag env t = { w with txQueue := w.txQueue ++ [.tag t] } := if_pos room

theorem Works.offerTag_full {t : Tag} (full : ¬w.tagsHeld < 12) : w.offerTag env t = w.raise env .txFull := if_neg full

/-- Forwarding raises TX_FULL at most. -/
theorem Works.forwardTag_counters (e : Entry) {j : Fin 19} (other : j ≠ 8) :
    (w.forwardTag env h e).notices.counters.get j = w.notices.counters.get j := by
  unfold Works.forwardTag Works.offerTag
  split
  · split
    · split
      · rfl
      · rw [Works.raise_notices, Notices.raise_counters, counter_txFull, if_neg (Ne.symm other)]
    · rfl
  · rfl

theorem Works.leave_counters (e : Entry) {j : Fin 19} (other : j ≠ 8) :
    (w.leave env h e).notices.counters.get j =
      if env.run = false ∧ j = 5 then countUp (w.notices.counters.get 5) else w.notices.counters.get j := by
  rw [Works.leave_eq, Works.forwardTag_counters _ _ _ _ other, Works.suppress_counters]

section Stays

variable {e : Entry} (stays : ¬e.forwards = true)

include stays

theorem Works.leave_not_txQueue : (w.leave env h e).txQueue = w.txQueue := by
  rw [Works.leave_eq, Works.forwardTag_not _ _ _ stays, Works.suppress_txQueue]

theorem Works.leave_not_counter : (w.leave env h e).notices.counters.get 8 = w.notices.counters.get 8 := by
  rw [Works.leave_eq, Works.forwardTag_not _ _ _ stays, Works.suppress_counters, if_neg (by simp)]

end Stays

section May

variable {e : Entry} {id : BitVec 6} (axis : env.lineAxis h = some id) (may : e.forwards = true)

include axis may

theorem Works.leave_room_txQueue (room : w.tagsHeld < 12) :
    (w.leave env h e).txQueue = w.txQueue ++ [.tag (e.forwarding id)] := by
  rw [← w.suppress_tagsHeld env] at room
  rw [Works.leave_eq, Works.forwardTag_some _ _ _ axis may, Works.offerTag_room _ _ room, Works.suppress_txQueue]

theorem Works.leave_room_counter (room : w.tagsHeld < 12) :
    (w.leave env h e).notices.counters.get 8 = w.notices.counters.get 8 := by
  rw [← w.suppress_tagsHeld env] at room
  rw [Works.leave_eq, Works.forwardTag_some _ _ _ axis may, Works.offerTag_room _ _ room, Works.suppress_counters,
    if_neg (by simp)]

theorem Works.leave_full_txQueue (full : ¬w.tagsHeld < 12) : (w.leave env h e).txQueue = w.txQueue := by
  rw [← w.suppress_tagsHeld env] at full
  rw [Works.leave_eq, Works.forwardTag_some _ _ _ axis may, Works.offerTag_full _ _ full, Works.raise_txQueue,
    Works.suppress_txQueue]

theorem Works.leave_full_counter (full : ¬w.tagsHeld < 12) :
    (w.leave env h e).notices.counters.get 8 = countUp (w.notices.counters.get 8) := by
  rw [← w.suppress_tagsHeld env] at full
  rw [Works.leave_eq, Works.forwardTag_some _ _ _ axis may, Works.offerTag_full _ _ full, Works.raise_notices,
    Notices.raise_counters, counter_txFull, if_pos rfl]
  exact congrArg countUp ((w.suppress_counters env 8).trans (if_neg (by simp)))

end May

/-! ### Entries that leave one after another -/

theorem Works.leaveAll_cons (e : Entry) (l : List Entry) : w.leaveAll env h (e :: l) = (w.leave env h e).leaveAll env h l := rfl

/-- No notice but SUPPRESSED and TX_FULL is raised. -/
theorem Works.leaveAll_counters (l : List Entry) {j : Fin 19} (not5 : j ≠ 5) (not8 : j ≠ 8) :
    (w.leaveAll env h l).notices.counters.get j = w.notices.counters.get j := by
  induction l generalizing w with
  | nil => rfl
  | cons e l ih => rw [Works.leaveAll_cons, ih, Works.leave_counters _ _ _ _ not8, if_neg fun x => not5 x.2]

/-- In HOLD each entry raises SUPPRESSED, in RUN none. -/
theorem Works.leaveAll_suppressed (l : List Entry) (range : w.notices.counters.get 5 ≤ 65535) :
    (w.leaveAll env h l).notices.counters.get 5 =
      min 65535 (w.notices.counters.get 5 + if env.run then 0 else l.length) := by
  induction l generalizing w with
  | nil => simp [Works.leaveAll, range]
  | cons e l ih =>
    have one := w.leave_counters env h e (j := 5) (by decide)
    simp only [and_true, countUp] at one
    rw [Works.leaveAll_cons, ih _ (by rw [one]; split <;> omega), one, List.length_cons]
    cases env.run
    · simp only [if_true, Bool.false_eq_true, if_false]
      omega
    · simp

/-- The forwardings are admitted while fewer than 12 tags are held; each one beyond raises TX_FULL. -/
theorem Works.leaveAll_sends (l : List Entry) {id : BitVec 6} (axis : env.lineAxis h = some id) :
    (w.leaveAll env h l).txQueue =
        w.txQueue ++ ((l.filter Entry.forwards).take (12 - w.tagsHeld)).map (fun e => .tag (e.forwarding id)) ∧
      (w.notices.counters.get 8 ≤ 65535 → (w.leaveAll env h l).notices.counters.get 8 =
        min 65535 (w.notices.counters.get 8 + ((l.filter Entry.forwards).length - (12 - w.tagsHeld)))) := by
  induction l generalizing w with
  | nil => simp [Works.leaveAll]
  | cons e l ih =>
    obtain ⟨queue, full⟩ := ih (w.leave env h e)
    rw [Works.leaveAll_cons, queue]
    by_cases may : e.forwards = true
    · by_cases room : w.tagsHeld < 12
      · have txQueue := w.leave_room_txQueue env h axis may room
        have held : (w.leave env h e).tagsHeld = w.tagsHeld + 1 := by
          rw [Works.tagsHeld, txQueue, List.countP_append]; rfl
        have places : 12 - w.tagsHeld = 12 - (w.tagsHeld + 1) + 1 := by omega
        rw [w.leave_room_counter env h axis may room, held] at full
        rw [txQueue, held, List.filter_cons_of_pos may, places, List.take_succ_cons, List.map_cons, List.append_assoc,
          List.length_cons, Nat.add_sub_add_right]
        exact ⟨rfl, full⟩
      · have txQueue := w.leave_full_txQueue env h axis may room
        have held : (w.leave env h e).tagsHeld = w.tagsHeld := congrArg (List.countP TxItem.isTag) txQueue
        have places : 12 - w.tagsHeld = 0 := by omega
        rw [w.leave_full_counter env h axis may room, held, places] at full
        rw [txQueue, held, List.filter_cons_of_pos may, places, List.length_cons]
        refine ⟨rfl, fun range => ?_⟩
        rw [full (min_le_left ..), countUp]
        omega
    · have txQueue := w.leave_not_txQueue env h may
      have held : (w.leave env h e).tagsHeld = w.tagsHeld := congrArg (List.countP TxItem.isTag) txQueue
      rw [w.leave_not_counter env h may, held] at full
      rw [txQueue, held, List.filter_cons_of_neg may]
      exact ⟨rfl, full⟩

end Leaving

/-! ### Actions that reach their lines -/

section Acts

variable (w : Works) (env : Env) (h : Handle) (m : Move)

/-- What an action makes of the lines rests on the lines alone. -/
theorem Works.act_outputs {v w : Works} (same : v.outputs = w.outputs) (src : Option Handle) (a : Action) :
    (v.act env src a).outputs = (w.act env src a).outputs := by
  unfold Works.act
  dsimp only
  rw [same]
  split
  · rfl
  · exact same

theorem Works.actAll_outputs {v w : Works} (same : v.outputs = w.outputs) (src : Option Handle) (l : List Action) :
    (v.actAll env src l).outputs = (w.actAll env src l).outputs := by
  induction l generalizing v w with
  | nil => exact same
  | cons a l ih => exact ih (Works.act_outputs env same src a)

/-- In RUN a late fire hands its action to the line; in HOLD, or without one, no line changes. -/
theorem Works.lateFire_outputs (e : Entry) :
    (w.lateFire env h e).outputs = (match e.action with
      | none => w
      | some a => if env.run then w.act env (some h) a else w).outputs := by
  have leave := Works.leave_frame ((w.raise env .lateFire).actAll env (some h) (e.firedAction env).toList) env h e
  unfold SendingOnly at leave
  rw [Works.lateFire, leave]
  have lines := Works.actAll_outputs env (v := w.raise env .lateFire) (w := w) rfl (some h) (e.firedAction env).toList
  refine lines.trans ?_
  cases run : env.run <;> cases action : e.action <;> simp [Entry.firedAction, run, action, Works.actAll]

/-- The notices and the transmit queue of a late fire are those of an entry that leaves once LATE_FIRE is raised. -/
theorem Works.lateFire_sends (e : Entry) :
    (w.lateFire env h e).txQueue = ((w.raise env .lateFire).leave env h e).txQueue ∧
      (w.lateFire env h e).notices = ((w.raise env .lateFire).leave env h e).notices := by
  have acts := Works.actAll_frame (w.raise env .lateFire) env (some h) (e.firedAction env).toList
  have beside := (w.raise env .lateFire).leave_beside env h (w.raise env .lateFire).sensors
    ((w.raise env .lateFire).actAll env (some h) (e.firedAction env).toList).outputs (w.raise env .lateFire).choice e
  have eq : w.lateFire env h e = ((w.raise env .lateFire).leave env h e).beside (w.raise env .lateFire).sensors
      ((w.raise env .lateFire).actAll env (some h) (e.firedAction env).toList).outputs (w.raise env .lateFire).choice := by
    rw [← beside, Works.lateFire, acts]
    rfl
  rw [eq]
  exact ⟨rfl, rfl⟩

end Acts

/-- Settles O19: a late fire is LATE_FIRE, the action in RUN, and then an entry that leaves (`Works.leave`). -/
theorem lateFire : Obligations.LateFire := by
  intro w env h e t
  have frame : t = _ := w.lateFire_frame env h e
  obtain ⟨txQueue, notices⟩ := w.lateFire_sends env h e
  have raised (j : Fin 19) : (w.raise env .lateFire).notices.counters.get j =
      if 2 = j then countUp (w.notices.counters.get 2) else w.notices.counters.get j := Notices.raise_counters ..
  have counter {j : Fin 19} (other : j ≠ 8) : t.notices.counters.get j =
      if env.run = false ∧ j = 5 then countUp ((w.raise env .lateFire).notices.counters.get 5)
      else (w.raise env .lateFire).notices.counters.get j := by
    rw [show t.notices = _ from notices, Works.leave_counters _ _ _ _ other]
  refine ⟨by rw [frame], by rw [frame], by rw [frame], by rw [frame], by rw [frame], w.lateFire_outputs env h e,
    fun range => ?late, fun range => ?suppressed, fun stays => ?stays, fun forward hop id axis => ⟨fun room => ?room, fun full =>
      ⟨?full, fun range => ?txFull⟩⟩⟩
  case late =>
    rw [counter (by decide), if_neg (by simp), raised, if_pos rfl, countUp]
    omega
  case suppressed =>
    have five : (w.raise env .lateFire).notices.counters.get 5 = w.notices.counters.get 5 :=
      (raised 5).trans (if_neg (by decide))
    rw [counter (by decide), five, countUp]
    cases env.run
    · simp only [and_self, if_true, Bool.false_eq_true, if_false]
      omega
    · simp
  case stays => exact txQueue.trans (Works.leave_not_txQueue _ env h (mt e.forwards_iff.mp stays))
  case room => exact txQueue.trans (Works.leave_room_txQueue _ env h axis (e.forwards_iff.mpr ⟨forward, hop⟩) room)
  case full =>
    exact txQueue.trans (Works.leave_full_txQueue _ env h axis (e.forwards_iff.mpr ⟨forward, hop⟩) (Nat.not_lt.mpr full))
  case txFull =>
    rw [show t.notices = _ from notices,
      Works.leave_full_counter (w.raise env .lateFire) env h axis (e.forwards_iff.mpr ⟨forward, hop⟩)
        (Nat.not_lt.mpr full), raised,
      if_neg (by decide), countUp]
    omega

/-! ### Position events (R7) -/

section PositionEvents

variable (w : Works) (env : Env) (h : Handle) (m : Move)

/-- A position event but for the lines and the windows: what the blocks are before the actions reach their lines. -/
theorem Works.positionEvent_frame :
    w.positionEvent env h m = { w.moved env h m with
      windows := (w.positionEvent env h m).windows, outputs := (w.positionEvent env h m).outputs } := by
  have acts := Works.actAll_frame (w.moved env h m) env (some h) (w.eventOrder env h m).flatten
  unfold OutputsOnly at acts
  rw [Works.positionEvent_eq, Works.recomputeOn_eq, acts]

theorem Works.positionEvent_nextStamp : (w.positionEvent env h m).nextStamp = w.nextStamp := by
  rw [Works.positionEvent_frame, Works.moved, Works.queueMove_frame]

theorem Works.positionEvent_sensors : (w.positionEvent env h m).sensors = (w.lockoutsMove env h m).sensors := by
  rw [Works.positionEvent_frame]; rfl

theorem Works.positionEvent_rings : (w.positionEvent env h m).rings = w.rings.change (ringAfter env h m) := by
  rw [Works.positionEvent_frame]; rfl

theorem Works.positionEvent_txQueue : (w.positionEvent env h m).txQueue = (w.queueMove env h m).2.txQueue := by
  rw [Works.positionEvent_frame]; rfl

theorem Works.positionEvent_notices : (w.positionEvent env h m).notices = (w.queueMove env h m).2.notices := by
  rw [Works.positionEvent_frame]; rfl

/-- Forward, the crossed entries leave. -/
theorem Works.positionEvent_fwd (fwd : m.dir = .fwd) :
    (w.positionEvent env h m).txQueue = ((w.uncrossed env h m).leaveAll env h (w.crossed env h m)).txQueue ∧
      (w.positionEvent env h m).notices = ((w.uncrossed env h m).leaveAll env h (w.crossed env h m)).notices := by
  rw [Works.positionEvent_txQueue, Works.positionEvent_notices, Works.queueMove_fwd _ _ _ _ fwd]
  exact ⟨rfl, rfl⟩

/-- Backward, the entries carried out of range raise MISSED. -/
theorem Works.positionEvent_rev (rev : m.dir = .rev) :
    (w.positionEvent env h m).txQueue = w.txQueue ∧
      (w.positionEvent env h m).notices = w.notices.raised env.cfg.noticeMask .missed
        ((w.queues.get h).filter (Entry.overrun m)).length := by
  rw [Works.positionEvent_txQueue, Works.positionEvent_notices, Works.queueMove_rev _ _ _ _ rev, Works.removeMissed_eq]
  exact ⟨rfl, rfl⟩

end PositionEvents

/-- Settles O13: forward the crossed entries leave one after another (`Works.leaveAll`), backward the overrun ones are missed. -/
theorem positionEventQueue : Obligations.PositionEventQueue := by
  intro w env h m id _ t crossed forwarded overrun raised
  have queues : t.queues = _ := w.positionEvent_queues env h m
  refine ⟨fun k ne => ?others, w.positionEvent_nextStamp env h m, fun k not4 not5 not8 => ?counters, fun fwd => ?fwd,
    fun rev => ?rev⟩
  case others => rw [queues, Bank.get_put_ne _ _ ne.symm]
  case counters =>
    cases dir : m.dir with
    | fwd =>
      rw [show t.notices = _ from (w.positionEvent_fwd env h m dir).2, Works.leaveAll_counters _ _ _ _ not5 not8]; rfl
    | rev =>
      rw [show t.notices = _ from (w.positionEvent_rev env h m dir).2, Notices.raised_counters_ne _ _ .missed _ not4]
  case fwd =>
    obtain ⟨txQueue, notices⟩ := w.positionEvent_fwd env h m fwd
    refine ⟨?_, fun range => ?_, fun range => ?_, fun axis => ?_⟩
    · rw [queues, Bank.get_put_self]
      simp only [passageTakes, fwd, if_true]
    · rw [show t.notices = _ from notices, Works.leaveAll_counters _ _ _ _ (by decide) (by decide)]
      exact (Nat.min_eq_right range).symm
    · rw [show t.notices = _ from notices]
      exact Works.leaveAll_suppressed _ env h _ range
    · obtain ⟨sent, full⟩ := Works.leaveAll_sends (w.uncrossed env h m) env h (w.crossed env h m) axis
      exact ⟨txQueue.trans sent, fun range => (congrArg (fun x : Notices => x.counters.get 8) notices).trans (full range)⟩
  case rev =>
    obtain ⟨txQueue, notices⟩ := w.positionEvent_rev env h m rev
    refine ⟨?_, txQueue, fun range => ?_, fun range => ?_, fun range => ?_⟩
    · rw [queues, Bank.get_put_self]
      simp only [passageTakes, rev, reduceCtorEq, if_false, Entry.overrun, ← decide_not, not_lt]
    · rw [show t.notices = _ from notices]
      exact Notices.raised_counters_self _ _ .missed _ range
    all_goals
      rw [show t.notices = _ from notices, Notices.raised_counters_ne _ _ .missed _ (by decide)]
      exact (Nat.min_eq_right range).symm

/-! ### What a position event hands to the lines -/

/-- Lists that are empty can be put back anywhere. -/
theorem perm_of_nonempty {α : Type} {order l : List (List α)} (perm : order.Perm (l.filter fun x => !x.isEmpty)) :
    ∃ full : List (List α), full.Perm l ∧ full.flatten = order.flatten := by
  refine ⟨order ++ l.filter fun x => !!x.isEmpty, (perm.append_right _).trans (List.filter_append_perm _ l), ?_⟩
  have none : (l.filter fun x => !!x.isEmpty).flatten = [] := by
    rw [List.flatten_eq_nil_iff]
    intro x hx
    simpa using (List.mem_filter.mp hx).2
  rw [List.flatten_append, none, List.append_nil]

section Handed

variable (w : Works) (env : Env) (h : Handle) (m : Move)

theorem Works.moved_outputs : (w.moved env h m).outputs = w.outputs.change fun _ o => o.onMove env h m := rfl

/-- The queue hands the actions of the crossed entries, in RUN and at a forward move alone (R33, R35). -/
theorem Works.queueMove_actions :
    (w.queueMove env h m).1 =
      if env.run = true ∧ m.dir = .fwd then (w.crossed env h m).filterMap fun e => e.action else [] := by
  cases dir : m.dir with
  | fwd =>
    rw [w.queueMove_fwd env h m dir]
    cases run : env.run <;> simp [Entry.firedAction, run]
  | rev => rw [w.queueMove_rev env h m dir, if_neg (by simp)]

/-- The windows on the handle follow its new position, the lines being what the releases and the actions have made of them. -/
theorem Works.positionEvent_follow :
    w.WindowsFollow env h ((w.moved env h m).actAll env (some h) (w.eventOrder env h m).flatten).outputs
      (w.positionEvent env h m) := by
  have acts := Works.actAll_frame (w.moved env h m) env (some h) (w.eventOrder env h m).flatten
  unfold OutputsOnly at acts
  have windows : ((w.moved env h m).actAll env (some h) (w.eventOrder env h m).flatten).windows = w.windows := by
    rw [acts]
    change (w.queueMove env h m).2.windows = w.windows
    rw [Works.queueMove_frame]
  have follow := Works.recomputeOn_follow ((w.moved env h m).actAll env (some h) (w.eventOrder env h m).flatten) env h
  rw [Works.positionEvent_eq]
  simp only [Works.WindowsFollow, Works.windowFlag, windows] at follow ⊢
  exact follow

/-- A WINDOW line takes the flag of its window when that one recomputes to another (R99). -/
theorem Works.WindowsFollow.window_line {w t : Works} {env : Env} {h : Handle} {lines : Bank Output 8}
    (f : w.WindowsFollow env h lines t) {q k : Fin 8} (mode : (env.cfg.outputs.get q).mode = .window)
    (followed : (env.cfg.outputs.get q).followed = some k) :
    t.outputs.get q =
      if (env.cfg.windows.get k).handle = some h ∧ w.windowFlag env k ≠ (w.windows.get k).flag then
        { lines.get q with
          followed := w.windowFlag env k
          level := if (lines.get q).condition = .normal then w.windowFlag env k else (lines.get q).level }
      else lines.get q := by
  obtain ⟨stay, follow⟩ := f.2 q
  split
  · rename_i changed
    exact follow k ⟨mode, followed, changed⟩
  · rename_i same
    refine stay fun j ⟨_, other, changed⟩ => same ?_
    cases followed.symm.trans other
    exact changed

end Handed

/-- Settles O14: the blocks that no action reaches are those of `Works.moved`; the lines are what the releases and the actions make
of them, and then the windows recompute. -/
theorem positionEventOthers : Obligations.PositionEventOthers := by
  intro w env h m t g walk evaluates
  have follow := w.positionEvent_follow env h m
  refine ⟨fun k => ?sensors, fun r => ?rings, follow.1, fun _ => ?lines⟩
  case sensors =>
    rw [show t.sensors = _ from w.positionEvent_sensors env h m]
    exact Bank.get_change ..
  case rings =>
    rw [show t.rings = _ from w.positionEvent_rings env h m]
    exact Bank.get_change ..
  case lines =>
    intro fired taken released
    have handed : w.eventActions env h m = (fired :: (List.finRange 4).map taken).filter fun l => !l.isEmpty := by
      have rings : (fun r => w.ringActions env h m r) = taken := by
        funext r
        exact if_congr (by rw [Bool.and_comm]; rfl) rfl rfl
      rw [Works.eventActions, Works.queueMove_actions, rings]
      rfl
    obtain ⟨order, perm, flatten⟩ := perm_of_nonempty ((w.arrange_perm (w.eventActions env h m)).trans (.of_eq handed))
    have lines (q : Fin 8) : ((w.moved env h m).actAll env (some h) (w.eventOrder env h m).flatten).outputs.get q =
        (order.flatten.foldl (fun w a => Works.act w env (some h) a) { w with outputs := released }).outputs.get q := by
      have release : (w.moved env h m).outputs = released := by
        rw [Works.moved_outputs]
        refine Bank.ext_get fun q => ?_
        rw [Bank.get_change, Bank.get_tabulate]
        cases pulse : (w.outputs.get q).pulse <;> simp [Output.onMove, Output.endPulse, pulse, g]
      rw [flatten]
      exact congrArg (fun lines => Bank.get lines q)
        (Works.actAll_outputs env (w := { w with outputs := released }) release (some h) (w.eventOrder env h m).flatten)
    refine ⟨order, perm, fun q => ⟨fun mode => ?_, fun mode k followed => ?_⟩⟩
    · exact (follow.action_line mode).trans (lines q)
    · rw [← lines q]
      exact follow.window_line mode followed

end Sys2Proof.Machine
end

section
/-! Tag rules (chapter 3): which rules take a tag, the remote tags, and TRIM_RULE and ARM on a rule. -/

namespace Sys2Proof.Machine

/-! ### The rows of the tag rules -/

section Rows

variable (s : State) (requester : Station) (tid index : Byte)

theorem exec_trimRule (offset : BitVec 32) : exec (.trimRule requester tid index offset) s =
    .next (s.takeCommand requester tid (.trimRule index offset)) := rfl
theorem exec_armRule (arm start : Byte) : exec (.armRule requester tid index arm start) s =
    .next (s.takeCommand requester tid (.armRule index arm start)) := rfl

end Rows

/-! ### TRIM_RULE and ARM on a rule (R63, R64) -/

theorem offsetInRange_iff (o : BitVec 32) : offsetInRange o = true ↔ -1073741824 ≤ o.toInt ∧ o.toInt ≤ 1073741824 := by
  simp [offsetInRange]

/-- The arm byte is read when it is 0 or 1. -/
theorem armByte_some {b : Byte} (bit : b = 0 ∨ b = 1) : armByte b = some (decide (b = 1)) := by
  rcases bit with rfl | rfl <;> rfl

theorem armByte_none {b : Byte} (above : 1 < b.toNat) : armByte b = none := by
  have ne (n : Byte) (low : n.toNat ≤ 1) : b ≠ n := by rintro rfl; omega
  rw [armByte, if_neg (ne 1 (by decide)), if_neg (ne 0 (by decide))]

section RuleCommands

variable {s : State} {rule : Byte}

theorem State.trimRule_fits {k : Fin 8} {offset : BitVec 32} (named : k.val = rule.toNat)
    (fits : offsetInRange offset = true) :
    s.trimRule rule offset = accept (s.withRule k { s.rules.get k with offset := offset }) := by
  simp only [State.trimRule, indexOf_some named, fits, if_true]

theorem State.trimRule_beyond {offset : BitVec 32} (beyond : 8 ≤ rule.toNat) :
    s.trimRule rule offset = refuse .badParam s := by
  simp only [State.trimRule, indexOf_none beyond]

theorem State.trimRule_unfit {offset : BitVec 32} (unfit : ¬offsetInRange offset = true) :
    s.trimRule rule offset = refuse .badParam s := by
  unfold State.trimRule
  split
  · rfl
  · exact if_neg unfit

theorem State.armRule_named {k : Fin 8} {arm : Byte} (named : k.val = rule.toNat) (bit : arm = 0 ∨ arm = 1) :
    s.armRule rule arm = accept (s.withRule k { s.rules.get k with armed := decide (arm = 1) }) := by
  simp only [State.armRule, indexOf_some named, armByte_some bit]

theorem State.armRule_refused {arm : Byte} (bad : 8 ≤ rule.toNat ∨ 1 < arm.toNat) :
    s.armRule rule arm = refuse .badParam s := by
  rcases bad with beyond | above
  · simp only [State.armRule, indexOf_none beyond]
    cases armByte arm <;> rfl
  · simp only [State.armRule, armByte_none above]

end RuleCommands

/-- Settles O46, each command by whether its bytes name a rule and a value it takes. -/
theorem ruleCommands : Obligations.RuleCommands := by
  refine ⟨fun s requester tid rule offset x => ?trim, fun s requester tid index arm start x => ?arm⟩
  case trim =>
    have trims {a : Answer} (e : s.trimRule rule offset = a) (c : a.result.counted = true) :
        exec (.trimRule requester tid rule offset) s = .next (a.state.answered ⟨requester, tid, 4, a.result, a.data⟩) := by
      rw [exec_trimRule, x.answers (c := .trimRule rule offset) e c]; rfl
    refine ⟨fun k named low high => trims (State.trimRule_fits named ((offsetInRange_iff offset).mpr ⟨low, high⟩)) rfl, ?_⟩
    rintro (beyond | outside)
    · exact trims (State.trimRule_beyond beyond) rfl
    · exact trims (State.trimRule_unfit fun fits => by have := (offsetInRange_iff offset).mp fits; omega) rfl
  case arm =>
    have arms {a : Answer} (e : s.armRule index arm = a) (c : a.result.counted = true) :
        exec (.armRule requester tid index arm start) s = .next (a.state.answered ⟨requester, tid, 6, a.result, a.data⟩) := by
      rw [exec_armRule, x.answers (c := .armRule index arm start) e c]; rfl
    exact ⟨fun k named bit => arms (State.armRule_named named bit) rfl, fun bad => arms (State.armRule_refused bad) rfl⟩

/-! ### The rules that take a tag (R60 to R62) -/

/-- `w'` is `w` but for what offers to the trigger queue and to the transmit queue can change. -/
def Works.OffersOnly (w w' : Works) : Prop :=
  w' = { w with
    queues := w'.queues, nextStamp := w'.nextStamp, outputs := w'.outputs, txQueue := w'.txQueue, notices := w'.notices }

theorem Works.OffersOnly.refl (a : Works) : OffersOnly a a := rfl

theorem Works.OffersOnly.trans (a b c : Works) (x : OffersOnly a b) (y : OffersOnly b c) : OffersOnly a c := by
  unfold OffersOnly at *; rw [y, x]

/-- Offers move no gate and reach no sensor. -/
theorem Works.OffersOnly.windows {a b : Works} (x : OffersOnly a b) : b.windows = a.windows := by
  unfold OffersOnly at x; rw [x]

theorem Works.OffersOnly.sensors {a b : Works} (x : OffersOnly a b) : b.sensors = a.sensors := by
  unfold OffersOnly at x; rw [x]

section RulesTake

variable (w : Works) (env : Env) (h : Handle)

/-- Whatever an offer comes to, it reaches no sensor, ring or window. -/
theorem Works.offer_frame (e : Entry) : w.OffersOnly (w.offer env h e).2 := by
  unfold Works.offer
  dsimp only
  split_ifs with unusable epoch held ahead room late
  case pos => rfl
  case pos => rfl
  case pos => rfl
  case pos => rfl
  case neg => rfl
  case pos => unfold OffersOnly; rw [Works.lateFire_frame]
  case neg => rfl

variable (src : RuleSource) (t : Tag)

theorem Works.ruleTakes_frame (k : Fin 8) : w.OffersOnly (w.ruleTakes env h src t k) := by
  unfold Works.ruleTakes
  split
  · exact w.offer_frame env h _
  · exact .refl w

theorem Works.rulesTake_frame : w.OffersOnly (w.rulesTake env h src t) :=
  foldl_frame _ OffersOnly .refl .trans (fun b k => b.ruleTakes_frame env h src t k) _ w

/-- A gate is open when its window's flag is 1; a rule without one is never held back (R61). -/
theorem Works.gateOpen_eq (k : Fin 8) :
    w.gateOpen env k = (env.cfg.rules.get k).gate.all fun g => (w.windows.get g).flag := by
  unfold Works.gateOpen
  cases (env.cfg.rules.get k).gate <;> rfl

/-- No offer moves a gate, so that those who take a tag are known before the first of them does. -/
theorem Works.ruleTakes_foldl (v : Works) (l : List (Fin 8)) (same : w.windows = v.windows) :
    l.foldl (fun w k => w.ruleTakes env h src t k) w =
      (l.filter fun k => env.matches k src t && v.gateOpen env k).foldl
        (fun w k => (w.offer env h (env.entryOf k t)).2) w := by
  induction l generalizing w with
  | nil => rfl
  | cons k ks ih =>
    have gate : w.gateOpen env k = v.gateOpen env k := by rw [Works.gateOpen_eq, Works.gateOpen_eq, same]
    rw [List.foldl_cons, ih _ ((w.ruleTakes_frame env h src t k).windows.trans same), Works.ruleTakes, gate]
    by_cases takes : (env.matches k src t && v.gateOpen env k) = true
    · rw [List.filter_cons, if_pos takes, if_pos takes, List.foldl_cons]
    · rw [List.filter_cons, if_neg takes, if_neg takes]

/-- The rules that match a tag and whose gate is open offer their entries in rule index order (R60 to R62). -/
theorem Works.rulesTake_eq :
    w.rulesTake env h src t =
      ((List.finRange 8).filter fun k => env.matches k src t && w.gateOpen env k).foldl
        (fun w k => (w.offer env h (env.entryOf k t)).2) w :=
  w.ruleTakes_foldl env h src t w _ rfl

end RulesTake

section Matching

variable (env : Env) (k : Fin 8) (t : Tag)

/-- A SENSOR rule sees its own sensor's tags (R60). -/
theorem Env.matches_sensor (j : Fin 4) :
    env.matches k (.sensor j) t = ((env.rules.get k).armed && decide ((env.cfg.rules.get k).source = .sensor j)) := by
  simp only [Env.matches, Bool.and_true]

/-- A LINE rule sees the remote tags that its three filters admit (R60). -/
theorem Env.matches_line :
    env.matches k .line t =
      ((env.rules.get k).armed && decide ((env.cfg.rules.get k).source = .line) &&
        (env.cfg.rules.get k).classes.getLsbD t.tagClass.toNat &&
        ((env.cfg.rules.get k).origin.all fun o => decide (t.origin = o)) &&
        ((env.cfg.rules.get k).hop.all fun x => decide (t.hop = x))) := by
  simp only [Env.matches, RuleSettings.admits, ← Bool.and_assoc]
  cases (env.cfg.rules.get k).origin <;> cases (env.cfg.rules.get k).hop <;>
    simp only [Option.all_none, Option.all_some, eq_comm]

end Matching

/-! ### Remote tags (R56 to R58) -/

section Mapping

variable {env : Env} {id : BitVec 6} {h : Handle}

theorem Env.mapTag_none (absent : ∀ h, env.cfg.isTrack h = true → env.lineAxis h ≠ some id) : env.mapTag id = none := by
  rw [Env.mapTag, List.find?_eq_none]
  intro h _ found
  simp only [Bool.and_eq_true, decide_eq_true_eq] at found
  exact absent h found.1 found.2

/-- The one TRACK handle in use with the id is the one a tag is mapped to. -/
theorem Env.mapTag_some (track : env.cfg.isTrack h = true) (axis : env.lineAxis h = some id)
    (only : ∀ h', env.cfg.isTrack h' = true → env.lineAxis h' = some id → h' = h) : env.mapTag id = some h := by
  cases e : env.mapTag id with
  | none =>
    have missed := List.find?_eq_none.mp e h (List.mem_finRange h)
    simp [track, axis] at missed
  | some h' =>
    have found := List.find?_some e
    simp only [Bool.and_eq_true, decide_eq_true_eq] at found
    rw [only h' found.1 found.2]

variable {w : Works} {t : Tag}

theorem Works.remoteTag_unmapped (e : env.mapTag t.lineAxis = none) : w.remoteTag env t = w.raise env .unmapped := by
  simp only [Works.remoteTag, e]

theorem Works.remoteTag_epochDiscard (e : env.mapTag t.lineAxis = some h) (other : t.epoch ≠ env.epoch h) :
    w.remoteTag env t = w.raise env .epochDiscard := by
  simp only [Works.remoteTag, e, if_pos other]

theorem Works.remoteTag_taken (e : env.mapTag t.lineAxis = some h) (epoch : t.epoch = env.epoch h) :
    w.remoteTag env t = w.rulesTake env h .line t := by
  simp only [Works.remoteTag, e, epoch, ne_eq, not_true_eq_false, if_false]

end Mapping

/-- Settles O24: the tag's handle, then its epoch, then the LINE rules whose gate is open (`Works.rulesTake_eq`). -/
theorem remoteTag : Obligations.RemoteTag := by
  intro w env t
  refine ⟨fun absent => Works.remoteTag_unmapped (Env.mapTag_none absent), fun h track axis only => ?_⟩
  have mapped := Env.mapTag_some track axis only
  refine ⟨fun other => Works.remoteTag_epochDiscard mapped other, fun epoch => ?_⟩
  rw [Works.remoteTag_taken mapped epoch, Works.rulesTake_eq]
  simp only [Env.matches_line, Works.gateOpen_eq]
  rfl

end Sys2Proof.Machine
end

section
/-! Sensors (chapter 3): the filter, the edges that are ignored, and the tag that an accepted one makes. -/

namespace Sys2Proof.Machine

/-! ### The rows of the sensors -/

section Rows

variable (s : State) (k : Fin 4)

theorem exec_sensorPinChange (level : Bool) : exec (.sensorPinChange k level) s = .next (s.sensorSample k level) := rfl
theorem exec_qualifiedChange : exec (.qualifiedChange k) s = .next (s.qualifyPending k) := rfl

end Rows

/-! ### The filter (R46, R67) -/

section Filter

variable {s : State} {k : Fin 4} {level : Bool}

theorem State.valid_iff (s : State) : s.valid = true ↔ s.startup.status = .valid := decide_eq_true_iff

theorem State.filtersRun_iff (s : State) :
    s.filtersRun = true ↔ s.held = false ∧ s.bus.station ≠ .loading ∧ s.startup.status = .valid := by
  simp [State.filtersRun, State.receives, State.valid_iff, and_assoc]

/-- Of two updates of one sensor the later stands. -/
theorem State.withSensor_withSensor (s : State) (k : Fin 4) (x y : Sensor) :
    (s.withSensor k x).withSensor k y = s.withSensor k y := by
  simp only [State.withSensor, State.withWorks, Bank.put_put]

theorem State.qualifyPending_stopped (stopped : ¬s.filtersRun = true) : s.qualifyPending k = s :=
  if_neg fun x => stopped x.1

theorem State.qualifyPending_none (none : (s.works.sensors.get k).pending = none) : s.qualifyPending k = s :=
  if_neg fun x => by simp [none] at x

theorem State.qualifyPending_some (runs : s.filtersRun = true) (pending : (s.works.sensors.get k).pending ≠ none) :
    s.qualifyPending k = s.qualify k :=
  if_pos ⟨runs, Option.isSome_iff_ne_none.mpr pending⟩

theorem State.sensorSample_stopped (stopped : ¬s.filtersRun = true) :
    s.sensorSample k level = s.withSensor k { s.works.sensors.get k with pin := level } :=
  if_pos (by simpa using stopped)

variable (runs : s.filtersRun = true)

include runs

theorem State.sensorSample_returns (back : level = (s.works.sensors.get k).qualified) :
    s.sensorSample k level = s.withSensor k { s.works.sensors.get k with pin := level, pending := none } := by
  rw [State.sensorSample, if_neg (by simp [runs]), if_pos back]

variable (away : level ≠ (s.works.sensors.get k).qualified)

include away

theorem State.sensorSample_unfiltered (code : (s.cfg.sensors.get k).filter = 0) :
    s.sensorSample k level = (s.withSensor k { s.works.sensors.get k with pin := level }).qualify k := by
  rw [State.sensorSample, if_neg (by simp [runs]), if_neg away, if_pos code]

variable (code : (s.cfg.sensors.get k).filter ≠ 0)

include code

theorem State.sensorSample_goes_on (pending : (s.works.sensors.get k).pending ≠ none) :
    s.sensorSample k level = s.withSensor k { s.works.sensors.get k with pin := level } := by
  rw [State.sensorSample, if_neg (by simp [runs]), if_neg away, if_neg code,
    if_pos (Option.isSome_iff_ne_none.mpr pending)]

theorem State.sensorSample_begins (none : (s.works.sensors.get k).pending = none) :
    s.sensorSample k level = s.withSensor k { s.works.sensors.get k with pin := level, pending := some 0 } := by
  rw [State.sensorSample, if_neg (by simp [runs]), if_neg away, if_neg code, if_neg (by simp [none])]

end Filter

/-! ### Edges (R47) -/

/-- An edge of interest, as the statements say it: the change away from the level `q`. -/
theorem EdgeSetting.interest_iff (e : EdgeSetting) (q : Bool) :
    e.interest (!q) = true ↔
      (q = false ∧ (e = .rise ∨ e = .both)) ∨ (q = true ∧ (e = .fall ∨ e = .both)) := by
  cases e <;> cases q <;> decide

/-- Sensor `x` once its pending change is qualified (R46). -/
def Sensor.changed (x : Sensor) : Sensor := { x with qualified := !x.qualified, pending := none }

section Edges

variable {s : State} {k : Fin 4}

/-- The level is taken, and then the edge is judged. -/
theorem State.qualify_eq (s : State) (k : Fin 4) :
    s.qualify k =
      if (s.cfg.sensors.get k).edge.interest (!(s.works.sensors.get k).qualified) = true ∧
          (s.works.sensors.get k).lockout = 0 ∧ s.bus.station = .rotating ∧ s.startup.status = .valid then
        (s.withSensor k (s.works.sensors.get k).changed).capture k
      else s.withSensor k (s.works.sensors.get k).changed := by
  unfold State.qualify State.sensorEdge
  refine if_congr ?_ rfl rfl
  simp [State.valid_iff]

/-- The filter's own count is not read when a change is qualified, nor is the level of the pin. -/
theorem State.qualify_withSensor_pending (s : State) (k : Fin 4) (x : Sensor) (n : Option Nat) :
    (s.withSensor k { x with pending := n }).qualify k = (s.withSensor k x).qualify k := by
  simp [State.qualify, State.withSensor_withSensor]

end Edges

/-- Settles O22: first whether the filters run, then where the new level stands to the qualified one. -/
theorem sensorChange : Obligations.SensorChange := by
  intro s k level x set filtersRun e interest
  have runs : s.filtersRun = true ↔ filtersRun := s.filtersRun_iff
  refine ⟨fun stopped => ?stopped, fun run => ?runs⟩
  case stopped =>
    have stopped' := mt runs.mp stopped
    rw [exec_sensorPinChange, exec_qualifiedChange, State.sensorSample_stopped stopped',
      State.qualifyPending_stopped stopped']
    exact ⟨rfl, rfl⟩
  have run' := runs.mpr run
  refine ⟨fun back => ?returns, fun away code => ?unfiltered, fun away code n pending => ?goesOn,
    fun away code none => ?begins, fun none => ?nothing, fun pending ignored => ?ignored⟩
  case returns => exact congrArg _ (State.sensorSample_returns run' back)
  case unfiltered =>
    refine ⟨_, (exec_sensorPinChange s k level).trans (congrArg _ (State.sensorSample_unfiltered run' away code)), ?_⟩
    have begun : ((set { x with pin := level, pending := some 0 }).works.sensors.get k).pending ≠ none := by simp [set]
    rw [exec_qualifiedChange, State.qualifyPending_some (s := set _) run' begun]
    exact congrArg _ (s.qualify_withSensor_pending k { x with pin := level } (some 0))
  case goesOn => exact congrArg _ (State.sensorSample_goes_on run' away code (by simp [x, pending]))
  case begins => exact congrArg _ (State.sensorSample_begins run' away code none)
  case nothing => exact congrArg _ (State.qualifyPending_none none)
  case ignored =>
    rw [exec_qualifiedChange, State.qualifyPending_some run' pending, State.qualify_eq, if_neg]
    · rfl
    · rintro ⟨seen, unlocked, rotating, -⟩
      have seen' : interest := (EdgeSetting.interest_iff e x.qualified).mp seen
      rcases ignored with blind | locked | still
      · exact blind seen'
      · exact locked unlocked
      · exact still rotating

/-! ### Captures (R48, R51 to R53) -/

section Captures

variable {s : State} {k : Fin 4} {h : Handle}

theorem State.capture_unmapped (captures : (s.cfg.sensors.get k).capture = some h) (off : s.env.active h = false) :
    s.capture k = s.raise .unmapped := by
  simp only [State.capture, captures, off, Bool.false_eq_true, if_false]

theorem State.capture_makes {id : BitVec 6} (captures : (s.cfg.sensors.get k).capture = some h)
    (on : s.env.active h = true) (axis : s.env.lineAxis h = some id) : s.capture k = s.makeTag k h id := by
  simp only [State.capture, captures, on, axis, if_true]

end Captures

section LocalTags

variable (w : Works) (env : Env) (h : Handle) (k : Fin 4) (t : Tag)

theorem Works.publish_frame : w.OffersOnly (w.publish env k t) := by
  unfold Works.publish
  split
  · have sends := w.offerTag_frame env t
    unfold SendingOnly at sends
    unfold OffersOnly
    rw [sends]
  · exact .refl w

/-- A local tag reaches the rules and the transmit queue, one of them first; the free value that says which, if one is taken, is
counted (R53, log entry 2). -/
theorem Works.localTag_cases :
    ∃ c, w.localTag env h k t = (Works.rulesTake { w with choice := c } env h (.sensor k) t).publish env k t ∨
      w.localTag env h k t = (Works.publish { w with choice := c } env k t).rulesTake env h (.sensor k) t := by
  unfold Works.localTag
  split
  · refine ⟨w.choice + 1, ?_⟩
    split
    · exact .inl rfl
    · exact .inr rfl
  · exact ⟨w.choice, .inl rfl⟩

/-- Neither hand reaches a sensor. -/
theorem Works.localTag_sensors : (w.localTag env h k t).sensors = w.sensors := by
  obtain ⟨c, e | e⟩ := w.localTag_cases env h k t
  · rw [e, (Works.publish_frame ..).sensors, (Works.rulesTake_frame ..).sensors]
  · rw [e, (Works.rulesTake_frame ..).sensors, (Works.publish_frame ..).sensors]

end LocalTags

/-- The tag takes the next sequence number and the two hands of R53, and the lockout is set (R52). -/
theorem State.makeTag_eq (s : State) (k : Fin 4) (h : Handle) (id : BitVec 6) :
    s.makeTag k h id =
      { s with
        nextSequence := s.nextSequence + 1
        works := { s.works.localTag s.env h k (s.capturedTag k h id) with
          sensors := s.works.sensors.put k
            { s.works.sensors.get k with lockout := (s.cfg.sensors.get k).lockout } } } := by
  have sensors := s.works.localTag_sensors s.env h k (s.capturedTag k h id)
  have made (w : Works) (e : s.works.localTag s.env h k (s.capturedTag k h id) = w) :
      s.makeTag k h id =
        { s with
          nextSequence := s.nextSequence + 1
          works := { w with
            sensors := w.sensors.put k { w.sensors.get k with lockout := (s.cfg.sensors.get k).lockout } } } := by
    rw [← e]; rfl
  rw [made _ rfl, sensors]

/-- The same on the sensor whose change has just been qualified. -/
theorem State.withSensor_makeTag (s : State) (k : Fin 4) (h : Handle) (id : BitVec 6) (x : Sensor) :
    (s.withSensor k x).makeTag k h id =
      { s with
        nextSequence := s.nextSequence + 1
        works := { (s.withSensor k x).works.localTag s.env h k (s.capturedTag k h id) with
          sensors := s.works.sensors.put k { x with lockout := (s.cfg.sensors.get k).lockout } } } := by
  rw [State.makeTag_eq, State.withSensor_works, Bank.get_put_self, Bank.put_put]
  rfl

/-- Settles O23: the edge is accepted; on an ACTIVE axis its tag has two hands to go to (`Works.localTag_cases`), and neither
moves a gate (`Works.ruleTakes_foldl`). -/
theorem captureMakesTag : Obligations.CaptureMakesTag := by
  intro s k h id x set tag passes toRules toQueue held pending unlocked rotating valid interest captures
  have runs : s.filtersRun = true := s.filtersRun_iff.mpr ⟨held, by rw [rotating]; decide, valid⟩
  have accepted : exec (.qualifiedChange k) s = .next ((s.withSensor k x.changed).capture k) := by
    rw [exec_qualifiedChange, State.qualifyPending_some runs pending, State.qualify_eq, if_pos]
    exact ⟨(EdgeSetting.interest_iff set.edge x.qualified).mpr interest, unlocked, rotating, valid⟩
  have captures' : ((s.withSensor k x.changed).cfg.sensors.get k).capture = some h := captures
  refine ⟨fun off => ?refused, fun on axis => ?taken⟩
  case refused => exact accepted.trans (congrArg _ (State.capture_unmapped captures' off))
  case taken =>
    have makes := (State.capture_makes captures' on axis).trans (s.withSensor_makeTag k h id x.changed)
    have rules (w : Works) (same : w.windows = s.works.windows) : w.rulesTake s.env h (.sensor k) tag = toRules w := by
      rw [Works.rulesTake, Works.ruleTakes_foldl w s.env h (.sensor k) tag s.works _ same]
      simp only [Env.matches_sensor, Works.gateOpen_eq]
      rfl
    have queue (w : Works) : w.publish s.env k tag = toQueue w := rfl
    obtain ⟨c, hands⟩ := (s.withSensor k x.changed).works.localTag_cases s.env h k tag
    let u : Works := { (s.withSensor k x.changed).works with choice := c }
    have rulesFirst : (u.rulesTake s.env h (.sensor k) tag).publish s.env k tag = toQueue (toRules u) := by
      rw [rules u rfl, queue]
    have queueFirst : (u.publish s.env k tag).rulesTake s.env h (.sensor k) tag = toRules (toQueue u) :=
      rules (u.publish s.env k tag) (u.publish_frame s.env k tag).windows
    let locked (w : Works) : Works :=
      { w with sensors := s.works.sensors.put k { x.changed with lockout := set.lockout } }
    exact ⟨_, c, accepted.trans (congrArg _ makes), rfl, hands.imp
      (fun e => congrArg locked (e.trans rulesFirst)) (fun e => congrArg locked (e.trans queueFirst))⟩

end Sys2Proof.Machine
end

section
/-! One period of CLK_IN: how far each timer goes, and when the rows that name the end of a time are due. -/

namespace Sys2Proof.Machine

/-! ### The rows that name the end of a time -/

section Rows

variable (s : State)

theorem exec_timedPulseExpiry (q : Fin 8) : exec (.timedPulseExpiry q) s = .next (s.withWorks (s.works.expire q)) := rfl
theorem exec_frameEndByIdle : exec .frameEndByIdle s = .next (if s.hears then s.idleEnd else s) := rfl

end Rows

/-! ### TIMED pulses (R93) -/

theorem Works.expire_timed {w : Works} {q : Fin 8} {r g : Nat} (timed : (w.outputs.get q).pulse = .timed r g) :
    w.expire q = { w with outputs := w.outputs.put q { w.outputs.get q with level := false, pulse := .idle } } := by
  simp only [Works.expire, timed, Output.endPulse]

theorem Works.expire_other {w : Works} {q : Fin 8} (other : ∀ r g, (w.outputs.get q).pulse ≠ .timed r g) :
    w.expire q = w := by
  unfold Works.expire
  dsimp only
  split
  · rename_i r g timed
    exact absurd timed (other r g)
  · rfl

/-- A line one period later: a TIMED pulse is one of the 200 periods of its unit further, any other line as it was. -/
theorem Output.tick_eq (o : Output) :
    { o with pulse := o.pulse.tick } =
      match o.pulse with
      | .timed r g => { o with pulse := if g + 1 < 200 then .timed r (g + 1) else .timed (r - 1) 0 }
      | _ => o := by
  obtain ⟨condition, level, pulse, followed⟩ := o
  cases pulse <;> rfl

/-! ### The bus (R118, R123) -/

/-- The periods of a byte, or else of idle at level 1 outside one, are counted, and the wait counts the same idle. -/
theorem Bus.tick_eq (b : Bus) :
    b.tick =
      if b.flight ≠ none then b
      else if 0 < b.byteLeft then { b with byteLeft := b.byteLeft - 1 }
      else if b.rxd = false then b
      else { b with idle := b.idle + 1, wait := b.wait.map fun x => { x with counted := x.counted + 1 } } := by
  unfold Bus.tick
  refine if_congr Option.isSome_iff_ne_none rfl (if_congr Iff.rfl rfl (if_congr ?_ rfl rfl))
  rw [Bool.not_eq_true']

/-- Out of reset a station receives unless it is LOADING (R113). -/
theorem State.receives_iff {s : State} (running : s.held = false) : s.receives = true ↔ s.bus.station ≠ .loading := by
  simp [State.receives, running]

/-! ### The advance of the timers -/

section Advance

variable {s : State} (running : s.held = false)

theorem State.advanceClock_frame (s : State) :
    s.advanceClock = { s with
      works := { s.works with sensors := s.advanceClock.works.sensors, outputs := s.advanceClock.works.outputs }
      holdIn := { s.holdIn with pending := s.holdIn.pending.map fun n => n + 1 }
      bus := s.advanceClock.bus } := rfl

theorem State.advanceClock_outputs (s : State) (q : Fin 8) :
    s.advanceClock.works.outputs.get q =
      match (s.works.outputs.get q).pulse with
      | .timed r g =>
        { s.works.outputs.get q with pulse := if g + 1 < 200 then .timed r (g + 1) else .timed (r - 1) 0 }
      | _ => s.works.outputs.get q :=
  (Bank.get_change (fun _ (o : Output) => { o with pulse := o.pulse.tick }) ..).trans (Output.tick_eq _)

include running

theorem State.advanceClock_sensors (k : Fin 4) :
    s.advanceClock.works.sensors.get k =
      if s.bus.station ≠ .loading ∧ s.startup.status = .valid then
        { s.works.sensors.get k with pending := (s.works.sensors.get k).pending.map fun n => n + 1 }
      else s.works.sensors.get k :=
  (Bank.get_change ..).trans (if_congr (s.filtersRun_iff.trans (and_iff_right running)) rfl rfl)

theorem State.advanceClock_bus :
    s.advanceClock.bus =
      if s.bus.station = .loading ∨ s.bus.flight ≠ none then s.bus
      else if 0 < s.bus.byteLeft then { s.bus with byteLeft := s.bus.byteLeft - 1 }
      else if s.bus.rxd = false then s.bus
      else { s.bus with
        idle := s.bus.idle + 1, wait := s.bus.wait.map fun x => { x with counted := x.counted + 1 } } := by
  change (if s.receives = true then s.bus.tick else s.bus) = _
  by_cases loading : s.bus.station = .loading
  · rw [if_neg fun r => (State.receives_iff running).mp r loading, if_pos (.inl loading)]
  · rw [if_pos ((State.receives_iff running).mpr loading), Bus.tick_eq]
    exact if_congr (by simp [loading]) rfl rfl

/-- A period is the advance of the timers and then the alarms due, in the order that is drawn. -/
theorem State.tick_eq :
    s.tick =
      ((s.advanceClock.works.arrange (Alarm.all.filter s.advanceClock.due)).1).foldl
        (fun u a => if u.due a then u.sound a else u)
        { s.advanceClock with works := { s.advanceClock.works with
          choice := (s.advanceClock.works.arrange (Alarm.all.filter s.advanceClock.due)).2.choice } } := by
  rw [State.tick, if_neg (by simp [running])]
  dsimp only
  rw [Works.arrange_works]
  rfl

end Advance

/-! ### When a row is due -/

theorem Alarm.mem_all (a : Alarm) : a ∈ Alarm.all := by
  cases a <;> simp [Alarm.all]

/-- The filter times of the codes, 0 to 20 ms in CLK_IN periods (R44). -/
theorem filterClocks_eq :
    ∀ code : BitVec 3, filterClocks code = [0, 100, 400, 1000, 4000, 20000, 100000, 400000].getD code.toNat 0 := by
  decide

section Due

variable (s : State)

theorem State.due_pulse (q : Fin 8) : s.due (.pulse q) = true ↔ ∃ g, (s.works.outputs.get q).pulse = .timed 0 g := by
  cases e : (s.works.outputs.get q).pulse <;> simp [State.due, e]

theorem State.due_sensor (k : Fin 4) :
    s.due (.sensor k) = true ↔
      s.filtersRun = true ∧ ∃ n, (s.works.sensors.get k).pending = some n ∧
        filterClocks (s.cfg.sensors.get k).filter ≤ n := by
  cases e : (s.works.sensors.get k).pending <;> simp [State.due, e]

theorem State.due_holdIn : s.due .holdIn = true ↔ ∃ n, s.holdIn.pending = some n ∧ holdClocks ≤ n := by
  cases e : s.holdIn.pending <;> simp [State.due, e]

theorem State.due_frameEnd :
    s.due .frameEnd = true ↔ s.hears = true ∧ s.bus.reception ≠ .none ∧
      frameIdleBits * bitClocks s.bus.rate < s.bus.idle := by
  simp [State.due, Reception.busy, and_assoc]

theorem State.due_emptyBus :
    s.due .emptyBus = true ↔
      s.hears = true ∧ s.bus.station = .listening ∧ s.bus.reception = .none ∧
        emptyBusBits * bitClocks s.bus.rate ≤ s.bus.idle := by
  simp [State.due, Reception.busy, and_assoc]

theorem State.due_wait :
    s.due .wait = true ↔
      s.bus.rxd = true ∧ ∃ x, s.bus.wait = some x ∧ x.length * bitClocks s.bus.rate ≤ x.counted := by
  cases e : s.bus.wait <;> simp [State.due, e]

end Due

/-- Settles O53, clause by clause: the expiry of a pulse, the period, and for each row its moment (`State.due`) and its act. -/
theorem timersRun : Obligations.TimersRun := by
  refine ⟨fun s q => ⟨fun r g timed => ?expires, fun other => ?stays⟩, fun s => ⟨fun held => ?held, fun running => ?period⟩,
    Alarm.mem_all, fun s => ?due⟩
  case expires => rw [exec_timedPulseExpiry, Works.expire_timed timed]; rfl
  case stays => rw [exec_timedPulseExpiry, Works.expire_other other]; rfl
  case held => exact if_pos held
  case period =>
    have perm := s.advanceClock.works.arrange_perm (Alarm.all.filter s.advanceClock.due)
    refine ⟨s.advanceClock, _, _, s.advanceClock_frame, State.advanceClock_sensors running, s.advanceClock_outputs,
      State.advanceClock_bus running, perm, fun short => ?_, State.tick_eq running⟩
    rw [Works.arrange_short _ _ (perm.length_eq ▸ short)]
    rfl
  case due =>
    intro bit hears
    have hears_iff : s.hears = true ↔ hears :=
      s.hears_iff.trans ⟨fun ⟨a, b, c, d⟩ => ⟨a, b, c, d⟩, fun ⟨a, b, c, d⟩ => ⟨a, b, c, d⟩⟩
    refine ⟨fun q => ⟨s.due_pulse q, rfl⟩, fun k => ⟨?sensor, rfl⟩, s.due_holdIn, rfl,
      s.due_frameEnd.trans (and_congr_left' hears_iff), fun h => ?frameEnd,
      s.due_emptyBus.trans (and_congr_left' hears_iff), rfl, s.due_wait, rfl⟩
    case sensor => rw [State.due_sensor, State.filtersRun_iff, filterClocks_eq, and_assoc, and_assoc]
    case frameEnd =>
      rw [exec_frameEndByIdle, if_pos (hears_iff.mpr h)]
      rfl

end Sys2Proof.Machine
end

section
/-! Cam rings and windows (chapter 4): the walk of a ring over one move, the flag of a window, and the console commands that set
them. -/

namespace Sys2Proof.Machine

/-! ### The walk of a ring (R71) -/

/-- The distance of the target `t` from the old position of a move, in its direction (R6). -/
def Move.distanceTo (m : Move) (g : Geometry) (t : Pos) : Nat :=
  if m.dir = .fwd then forwardDistance g m.old t else forwardDistance g t m.old

/-- An entry that stands at `t` is crossed by a move in a direction it qualifies for (R71, R74). -/
def CamEntry.TakenBy (e : CamEntry) (g : Geometry) (m : Move) (t : Pos) : Prop :=
  1 ≤ m.distanceTo g t ∧ m.distanceTo g t ≤ m.distance ∧
    (e.direction = .both ∨ e.direction = .fwd ∧ m.dir = .fwd ∨ e.direction = .rev ∧ m.dir = .rev)

theorem CamDirection.qualifies_iff (c : CamDirection) (d : Direction) :
    c.qualifies d = true ↔ c = .both ∨ c = .fwd ∧ d = .fwd ∨ c = .rev ∧ d = .rev := by
  cases c <;> cases d <;> decide

theorem crosses_iff (g : Geometry) (m : Move) (t : Pos) :
    crosses g m t = true ↔ 1 ≤ m.distanceTo g t ∧ m.distanceTo g t ≤ m.distance := by
  unfold crosses Move.distanceTo
  dsimp only
  rw [Bool.and_eq_true, decide_eq_true_iff, decide_eq_true_iff]
  cases m.dir <;> exact Iff.rfl

theorem CamEntry.takenBy_iff (e : CamEntry) (g : Geometry) (m : Move) (t : Pos) :
    e.TakenBy g m t ↔ crosses g m t = true ∧ e.direction.qualifies m.dir = true := by
  rw [crosses_iff, CamDirection.qualifies_iff, and_assoc]
  rfl

section Walk

variable {entries : List CamEntry} {positions : List Pos} {g : Geometry} {m : Move} {p most : Nat} {e : CamEntry} {t : Pos}

theorem walkRing_taken (entry : entries[p]? = some e) (position : positions[p]? = some t) (taken : e.TakenBy g m t) :
    walkRing entries positions g m (most + 1) p =
      ((walkRing entries positions g m most ((p + 1) % entries.length)).1,
        e :: (walkRing entries positions g m most ((p + 1) % entries.length)).2) := by
  obtain ⟨inside, -⟩ := List.getElem?_eq_some_iff.mp entry
  have next : (p + 1) % entries.length = if p + 1 = entries.length then 0 else p + 1 := by
    split
    · rename_i last
      rw [last, Nat.mod_self]
    · exact Nat.mod_eq_of_lt (by omega)
  rw [walkRing, entry, position, next]
  exact if_pos ((e.takenBy_iff g m t).mp taken)

theorem walkRing_stops (entry : entries[p]? = some e) (position : positions[p]? = some t) (stops : ¬e.TakenBy g m t) :
    walkRing entries positions g m (most + 1) p = (p, []) := by
  rw [walkRing, entry, position]
  exact if_neg (mt (e.takenBy_iff g m t).mpr stops)

/-- A walk that may take `most` entries comes to `r`: it takes `n` of them, one after another in ring order from `p` on, and stops
where its pointer stands, at the first that the move does not take (R71). -/
structure WalkTakes (entries : List CamEntry) (positions : List Pos) (g : Geometry) (m : Move) (most p : Nat)
    (r : Nat × List CamEntry) (n : Nat) : Prop where
  le : n ≤ most
  pointer : r.1 = (p + n) % entries.length
  order : r.2.map some = (List.range n).map fun j => entries[(p + j) % entries.length]?
  taken : ∀ j < n, ∃ e t, entries[(p + j) % entries.length]? = some e ∧ positions[(p + j) % entries.length]? = some t ∧
    e.TakenBy g m t
  stops : n < most → ∃ e t, entries[(p + n) % entries.length]? = some e ∧
    positions[(p + n) % entries.length]? = some t ∧ ¬e.TakenBy g m t

/-- A walk that takes the entry at its pointer goes on from the next. -/
theorem WalkTakes.cons {r : Nat × List CamEntry} {n : Nat} (entry : entries[p]? = some e)
    (position : positions[p]? = some t) (taken : e.TakenBy g m t)
    (rest : WalkTakes entries positions g m most ((p + 1) % entries.length) r n) :
    WalkTakes entries positions g m (most + 1) p (r.1, e :: r.2) (n + 1) := by
  obtain ⟨inside, -⟩ := List.getElem?_eq_some_iff.mp entry
  have first : (p + 0) % entries.length = p := Nat.mod_eq_of_lt inside
  have shift (j : Nat) : ((p + 1) % entries.length + j) % entries.length = (p + (j + 1)) % entries.length := by
    rw [Nat.mod_add_mod, Nat.add_right_comm, Nat.add_assoc]
  obtain ⟨le, pointer, order, others, stops⟩ := rest
  simp only [shift] at pointer order others stops
  refine ⟨Nat.succ_le_succ le, pointer, ?_, fun j hj => ?_, fun less => stops (Nat.lt_of_succ_lt_succ less)⟩
  · rw [List.range_succ_eq_map, List.map_cons, List.map_cons, first, entry, order, List.map_map]
    rfl
  · cases j with
    | zero => exact first.symm ▸ ⟨e, t, entry, position, taken⟩
    | succ j => exact others j (Nat.lt_of_succ_lt_succ hj)

/-- What a walk comes to, by how many entries it may still take. -/
theorem walkRing_takes (same : positions.length = entries.length) (most : Nat) (inside : p < entries.length) :
    ∃ n, WalkTakes entries positions g m most p (walkRing entries positions g m most p) n := by
  induction most generalizing p with
  | zero => exact ⟨0, le_rfl, (Nat.mod_eq_of_lt inside).symm, rfl, nofun, nofun⟩
  | succ most ih =>
    have entry := List.getElem?_eq_getElem inside
    have position := List.getElem?_eq_getElem (same ▸ inside : p < positions.length)
    by_cases taken : entries[p].TakenBy g m positions[p]
    · obtain ⟨n, rest⟩ := ih (Nat.mod_lt _ (p.zero_le.trans_lt inside))
      rw [walkRing_taken entry position taken]
      exact ⟨n + 1, rest.cons entry position taken⟩
    · have here : (p + 0) % entries.length = p := Nat.mod_eq_of_lt inside
      rw [walkRing_stops entry position taken]
      exact ⟨0, Nat.zero_le _, here.symm, rfl, nofun, fun _ => here.symm ▸ ⟨_, _, entry, position, taken⟩⟩

/-- The pointer stays in the ring (R69). -/
theorem walkRing_pointer_lt (same : positions.length = entries.length) (most : Nat) (inside : p < entries.length) :
    (walkRing entries positions g m most p).1 < entries.length := by
  obtain ⟨n, walk⟩ := walkRing_takes (g := g) (m := m) same most inside
  rw [walk.pointer]
  exact Nat.mod_lt _ (p.zero_le.trans_lt inside)

end Walk

/-- Settles O16: the walk that may take every entry of the ring once (`walkRing_takes`). -/
theorem ringWalk : Obligations.RingWalk := by
  intro entries positions g m p inside same
  obtain ⟨n, le, pointer, order, taken, stops⟩ := walkRing_takes (g := g) (m := m) same entries.length inside
  exact ⟨n, le, pointer, order, taken, stops⟩

/-! ### The flag of a window (R80) -/

/-- Forward on a RING axis from `a` to `b`: past the origin when `b` comes before `a` (R4). -/
theorem forwardDistance_ring {g : Geometry} (ring : g.kind = .ring) {a b : Pos} (ha : a.toNat < g.modulus)
    (hb : b.toNat < g.modulus) :
    forwardDistance g a b = if a.toNat ≤ b.toNat then b.toNat - a.toNat else b.toNat + g.modulus - a.toNat := by
  simp only [forwardDistance, ring, Nat.mod_eq_of_lt ha, Nat.mod_eq_of_lt hb]
  split
  · rw [show b.toNat + (g.modulus - a.toNat) = b.toNat - a.toNat + g.modulus by omega, Nat.add_mod_right]
    exact Nat.mod_eq_of_lt (by omega)
  · rw [Nat.mod_eq_of_lt (by omega)]
    omega

theorem inWindow_track {g : Geometry} (track : g.kind = .track) (lower upper p : Pos) :
    inWindow g lower upper p = true ↔
      0 ≤ signedDifference p lower ∧ signedDifference p lower ≤ signedDifference upper lower := by
  simp only [inWindow, track, Bool.and_eq_true, decide_eq_true_eq]

/-- On a RING axis the window goes forward from its lower bound to its upper one (R80). -/
theorem inWindow_ring {g : Geometry} (ring : g.kind = .ring) {lower upper p : Pos} (hl : lower.toNat < g.modulus)
    (hu : upper.toNat < g.modulus) (hp : p.toNat < g.modulus) :
    inWindow g lower upper p = true ↔
      if lower.toNat ≤ upper.toNat then lower.toNat ≤ p.toNat ∧ p.toNat ≤ upper.toNat
      else lower.toNat ≤ p.toNat ∨ p.toNat ≤ upper.toNat := by
  simp only [inWindow, ring, decide_eq_true_eq, forwardDistance_ring ring hl hp, forwardDistance_ring ring hl hu]
  split_ifs <;> omega

theorem Works.windowFlag_unused {w : Works} {env : Env} {k : Fin 8} (off : (env.cfg.windows.get k).handle = none) :
    w.windowFlag env k = false := by
  rw [Works.windowFlag, off]

theorem Works.windowFlag_used {w : Works} {env : Env} {h : Handle} {k : Fin 8} (on : (env.cfg.windows.get k).handle = some h) :
    w.windowFlag env k =
      (env.active h && inWindow (env.cfg.geometry h) (w.windows.get k).lower (w.windows.get k).upper (env.position h)) := by
  rw [Works.windowFlag, on]

/-- Settles O17: a window in use on an ACTIVE axis reads whether the position lies in it, by the kind of the axis. -/
theorem windowTable : Obligations.WindowTable := by
  intro w env k h lower upper p g
  refine ⟨Works.windowFlag_unused, fun on => ⟨Works.windowFlag_not_active on, fun active track => ?track,
    fun active ring hl hu hp => ⟨fun upward => ?upward, fun across => ?across⟩⟩⟩
  all_goals rw [Works.windowFlag_used on, active, Bool.true_and]
  case track => exact inWindow_track track lower upper p
  case upward => rw [inWindow_ring ring hl hu hp, if_pos upward]
  case across => rw [inWindow_ring ring hl hu hp, if_neg (Nat.not_le.mpr across)]

/-! ### The rows of the cam rings and the windows -/

section Rows

variable (s : State) (requester : Station) (tid index : Byte)

theorem exec_trimCam (entry : Byte) (position : BitVec 32) : exec (.trimCam requester tid index entry position) s =
    .next (s.takeCommand requester tid (.trimCam index entry position)) := rfl
theorem exec_armRing (arm start : Byte) : exec (.armRing requester tid index arm start) s =
    .next (s.takeCommand requester tid (.armRing index arm start)) := rfl
theorem exec_trimWindow (lower upper : BitVec 32) : exec (.trimWindow requester tid index lower upper) s =
    .next (s.takeCommand requester tid (.trimWindow index lower upper)) := rfl

end Rows

/-- The index that a byte names is the byte's value. -/
theorem indexOf_eq_some {n : Nat} {b : Byte} {i : Fin n} (e : indexOf n b = some i) : i.val = b.toNat := by
  unfold indexOf at e
  split at e
  · cases e; rfl
  · cases e

/-! ### TRIM_CAM and ARM on a ring (R77, R78) -/

theorem armByte_zero : armByte 0 = some false := rfl

theorem armByte_one : armByte 1 = some true := rfl

section RingCommands

variable {s : State} {index : Byte} {r : Fin 4}

theorem State.trimCam_fits {h : Handle} {entry : Byte} {position : BitVec 32} (named : r.val = index.toNat)
    (used : (s.cfg.rings.get r).handle = some h) (inside : entry.toNat < (s.cfg.rings.get r).entries.length)
    (admits : (s.cfg.geometry h).admits position = true) :
    s.trimCam index entry position =
      accept (s.withRing r
        { s.works.rings.get r with positions := (s.works.rings.get r).positions.set entry.toNat position }) := by
  simp only [State.trimCam, indexOf_some named, used, inside, admits, and_self, if_true]

theorem State.trimCam_unfit {entry : Byte} {position : BitVec 32}
    (unfit : ∀ r : Fin 4, r.val = index.toNat → ∀ h, (s.cfg.rings.get r).handle = some h →
      ¬(entry.toNat < (s.cfg.rings.get r).entries.length ∧ (s.cfg.geometry h).admits position = true)) :
    s.trimCam index entry position = refuse .badParam s := by
  unfold State.trimCam
  split
  · rfl
  · rename_i r named
    split
    · rfl
    · rename_i h used
      exact if_neg (unfit r (indexOf_eq_some named) h used)

theorem State.armRing_arms {start : Byte} (named : r.val = index.toNat) (used : (s.cfg.rings.get r).handle ≠ none)
    (inside : start.toNat < (s.cfg.rings.get r).entries.length) :
    s.armRing index 1 start =
      accept (s.withRing r { s.works.rings.get r with armed := true, pointer := start.toNat }) := by
  have inUse : s.cfg.ringInUse r = true := Option.isSome_iff_ne_none.mpr used
  simp only [State.armRing, armByte_one, indexOf_some named, inUse, inside, if_true]

theorem State.armRing_disarms {start : Byte} (named : r.val = index.toNat) (used : (s.cfg.rings.get r).handle ≠ none) :
    s.armRing index 0 start = accept (s.withRing r { s.works.rings.get r with armed := false }) := by
  have inUse : s.cfg.ringInUse r = true := Option.isSome_iff_ne_none.mpr used
  simp only [State.armRing, armByte_zero, indexOf_some named, inUse, if_true, Bool.false_eq_true, if_false]

theorem State.armRing_badByte {arm start : Byte} (above : 1 < arm.toNat) : s.armRing index arm start = refuse .badParam s := by
  simp only [State.armRing, armByte_none above]

theorem State.armRing_unfit {arm start : Byte}
    (unfit : ∀ r : Fin 4, r.val = index.toNat →
      (s.cfg.rings.get r).handle = none ∨ arm = 1 ∧ (s.cfg.rings.get r).entries.length ≤ start.toNat) :
    s.armRing index arm start = refuse .badParam s := by
  unfold State.armRing
  split
  · rename_i a r bit named
    rcases unfit r (indexOf_eq_some named) with off | ⟨rfl, beyond⟩
    · exact if_neg (by simp [Settings.ringInUse, off])
    · cases bit
      simp [Nat.not_lt.mpr beyond]
  · rfl

end RingCommands

/-- Settles O45, each command by whether its bytes name a ring in use and values it takes. -/
theorem ringCommands : Obligations.RingCommands := by
  refine ⟨fun s requester tid ring entry position x => ?trim, fun s requester tid index arm start x => ?arm⟩
  case trim =>
    have trims {a : Answer} (e : s.trimCam ring entry position = a) (c : a.result.counted = true) :
        exec (.trimCam requester tid ring entry position) s =
          .next (a.state.answered ⟨requester, tid, 3, a.result, a.data⟩) := by
      rw [exec_trimCam, x.answers (c := .trimCam ring entry position) e c]; rfl
    refine ⟨fun r h named used inside fits =>
      trims (State.trimCam_fits named used inside ((Geometry.admits_iff ..).mpr fits)) rfl, fun unfit => ?_⟩
    refine trims (State.trimCam_unfit fun r named h used ⟨inside, admits⟩ => ?_) rfl
    rcases unfit r named h used with beyond | ⟨kind, beyond⟩
    · exact Nat.not_lt.mpr beyond inside
    · exact Nat.not_lt.mpr beyond ((Geometry.admits_iff ..).mp admits kind)
  case arm =>
    have arms {a : Answer} (e : s.armRing index arm start = a) (c : a.result.counted = true) :
        exec (.armRing requester tid index arm start) s =
          .next (a.state.answered ⟨requester, tid, 6, a.result, a.data⟩) := by
      rw [exec_armRing, x.answers (c := .armRing index arm start) e c]; rfl
    refine ⟨fun r named used => ⟨?_, ?_⟩, ?_⟩
    · rintro rfl inside
      exact arms (State.armRing_arms named used inside) rfl
    · rintro rfl
      exact arms (State.armRing_disarms named used) rfl
    · rintro (above | unfit)
      · exact arms (State.armRing_badByte above) rfl
      · exact arms (State.armRing_unfit unfit) rfl

/-! ### TRIM_WINDOW (R82) -/

theorem Geometry.admitsBounds_iff (g : Geometry) (lower upper : Pos) :
    g.admitsBounds lower upper = true ↔
      (g.kind = .track → 0 ≤ signedDifference upper lower) ∧
        (g.kind = .ring → lower.toNat < g.modulus ∧ upper.toNat < g.modulus) := by
  unfold Geometry.admitsBounds
  cases g.kind <;> simp

/-- The blocks with the bounds of a window set and its flag not yet recomputed. -/
def Works.bounded (w : Works) (k : Fin 8) (lower upper : Pos) : Works :=
  { w with windows := w.windows.put k { w.windows.get k with lower := lower, upper := upper } }

section WindowCommands

variable {s : State} {index : Byte} {lower upper : BitVec 32}

theorem State.trimWindow_fits {k : Fin 8} {h : Handle} (named : k.val = index.toNat)
    (used : (s.cfg.windows.get k).handle = some h) (admits : (s.cfg.geometry h).admitsBounds lower upper = true) :
    s.trimWindow index lower upper = accept (s.withWorks ((s.works.bounded k lower upper).recompute s.env k)) := by
  simp only [State.trimWindow, indexOf_some named, used, admits, if_true]
  rfl

theorem State.trimWindow_unfit
    (unfit : ∀ k : Fin 8, k.val = index.toNat → ∀ h, (s.cfg.windows.get k).handle = some h →
      ¬(s.cfg.geometry h).admitsBounds lower upper = true) :
    s.trimWindow index lower upper = refuse .badParam s := by
  unfold State.trimWindow
  split
  · rfl
  · rename_i k named
    split
    · rfl
    · rename_i h used
      exact if_neg (unfit k (indexOf_eq_some named) h used)

end WindowCommands

section Bounded

variable (w : Works) (env : Env) (k : Fin 8) (lower upper : Pos)

theorem Works.bounded_window : (w.bounded k lower upper).windows.get k = ⟨lower, upper, (w.windows.get k).flag⟩ :=
  Bank.get_put_self ..

/-- The flag that new bounds give a window in use. -/
theorem Works.bounded_windowFlag {h : Handle} (used : (env.cfg.windows.get k).handle = some h) :
    (w.bounded k lower upper).windowFlag env k =
      (env.active h && inWindow (env.cfg.geometry h) lower upper (env.position h)) := by
  rw [Works.windowFlag_used used, Works.bounded_window]

/-- The one window takes its bounds and its flag. -/
theorem Works.bounded_recompute_windows :
    ((w.bounded k lower upper).recompute env k).windows =
      w.windows.put k ⟨lower, upper, (w.bounded k lower upper).windowFlag env k⟩ := by
  refine Bank.ext_get fun j => ?_
  rw [Works.recompute_windows, Works.bounded_window, Bank.get_put]
  split
  · rfl
  · rename_i other
    exact Bank.get_put_ne _ _ other

/-- New bounds, and the recomputing that follows them, reach the windows and the lines alone. -/
theorem Works.bounded_recompute_frame : w.WindowsOnly ((w.bounded k lower upper).recompute env k) :=
  have bounds : w.WindowsOnly (w.bounded k lower upper) := rfl
  .trans _ _ _ bounds (Works.recompute_frame _ env k)

end Bounded

/-- Settles O47: the bounds are set (`Works.bounded`), and then the window recomputes. -/
theorem trimWindowSets : Obligations.TrimWindowSets := by
  intro s requester tid window lower upper x admitted
  have trims {a : Answer} (e : s.trimWindow window lower upper = a) (c : a.result.counted = true) :
      exec (.trimWindow requester tid window lower upper) s =
        .next (a.state.answered ⟨requester, tid, 5, a.result, a.data⟩) := by
    rw [exec_trimWindow, x.answers (c := .trimWindow window lower upper) e c]; rfl
  have admits_iff (h : Handle) : (s.cfg.geometry h).admitsBounds lower upper = true ↔ admitted h :=
    Geometry.admitsBounds_iff ..
  refine ⟨fun k h named used admits => ?_, fun unfit =>
    trims (State.trimWindow_unfit fun k named h used => mt (admits_iff h).mp (unfit k named h used)) rfl⟩
  intro flag
  have frame := s.works.bounded_recompute_frame s.env k lower upper
  have shown : (s.works.bounded k lower upper).windowFlag s.env k = flag :=
    s.works.bounded_windowFlag s.env k lower upper used
  refine ⟨_, trims (State.trimWindow_fits named used ((admits_iff h).mpr admits)) rfl, ?frame, ?windows, fun q => ?lines⟩
  case frame => exact congrArg s.withWorks frame
  case windows => rw [← shown]; exact Works.bounded_recompute_windows ..
  case lines =>
    refine (Works.recompute_outputs _ s.env k q).trans ?_
    rw [shown, Works.bounded_window]
    exact if_congr (and_assoc.symm.trans and_comm) rfl rfl

end Sys2Proof.Machine
end

section
/-! What an event leaves of the cam rings and the windows: each ring fits its settings (R69), and each window's flag is the one
its axis gives (R80). -/

namespace Sys2Proof.Machine

/-! ### What rings and windows rest on -/

/-- A ring stands in its settings: the pointer at one of its entries, and a position for each (R69). -/
def Ring.Fits (x : Ring) (set : RingSettings) : Prop :=
  x.pointer < set.entries.length ∧ x.positions.length = set.entries.length

/-- From `w` to `t` every ring that fits its settings still does. -/
def Works.KeepsRings (w : Works) (cfg : Settings) (t : Works) : Prop :=
  ∀ r, (w.rings.get r).Fits (cfg.rings.get r) → (t.rings.get r).Fits (cfg.rings.get r)

theorem Works.KeepsRings.of_eq {w t : Works} {cfg : Settings} (rings : t.rings = w.rings) : w.KeepsRings cfg t :=
  fun _ fits => rings ▸ fits

/-- From `w` to `t` window `k` recomputes on the axis as it stands, its bounds as they were (R81). -/
def Works.Recomputes (w : Works) (env : Env) (k : Fin 8) (t : Works) : Prop :=
  t.windows.get k = { w.windows.get k with flag := w.windowFlag env k }

/-- A window that has recomputed shows the flag that its axis gives. -/
theorem Works.Recomputes.sound {w t : Works} {env : Env} {k : Fin 8} (e : w.Recomputes env k t) :
    (t.windows.get k).flag = t.windowFlag env k := by
  unfold Works.Recomputes at e
  simp only [Works.windowFlag, e]

/-- On an axis that stays as it was, or stays not ACTIVE, a window's flag stays. -/
theorem Works.windowFlag_stays {w t : Works} {a b : Env} {k : Fin 8} (cfg : b.cfg = a.cfg)
    (window : t.windows.get k = w.windows.get k)
    (axis : ∀ h, (a.cfg.windows.get k).handle = some h →
      b.active h = a.active h ∧ (a.active h = true → b.position h = a.position h)) :
    t.windowFlag b k = w.windowFlag a k := by
  cases used : (a.cfg.windows.get k).handle with
  | none => rw [Works.windowFlag_unused used, Works.windowFlag_unused (cfg ▸ used)]
  | some h =>
    obtain ⟨active, position⟩ := axis h used
    rw [Works.windowFlag_used used, Works.windowFlag_used (cfg ▸ used), cfg, window, active]
    cases on : a.active h with
    | false => simp only [Bool.false_and]
    | true => rw [position on]

/-! ### The events of a handle -/

/-- What every event of handle `h` makes of `w`: the rings still fit, and the windows on `h` alone recompute. -/
structure Works.Delivers (w : Works) (env : Env) (h : Handle) (t : Works) : Prop where
  rings : w.KeepsRings env.cfg t
  windows : ∀ k, t.windows.get k =
    if (env.cfg.windows.get k).handle = some h then { w.windows.get k with flag := w.windowFlag env k }
    else w.windows.get k

section Events

variable (w : Works) (env : Env) (h : Handle) (m : Move)

/-- The windows on a handle recompute once the other consumers have taken its event. -/
theorem Works.Delivers.recomputeOn {w : Works} {env : Env} (v : Works) (rings : w.KeepsRings env.cfg v)
    (windows : v.windows = w.windows) (h : Handle) : w.Delivers env h (v.recomputeOn env h) := by
  refine ⟨fun r fits => ?_, fun k => ?_⟩
  · rw [Works.recomputeOn_rings]
    exact rings r fits
  · have follow := (v.recomputeOn_follow env h).1 k
    rwa [Works.windowFlag_congr env (congrArg (fun x => Bank.get x k) windows), windows] at follow

/-- An event is the same to blocks that differ in neither rings nor windows. -/
theorem Works.Delivers.congr {w v t : Works} {env : Env} {h : Handle} (rings : v.rings = w.rings)
    (windows : v.windows = w.windows) (event : v.Delivers env h t) : w.Delivers env h t := by
  refine ⟨fun r fits => event.rings r (rings ▸ fits), fun k => ?_⟩
  rw [event.windows k, Works.windowFlag_congr env (congrArg (fun x => Bank.get x k) windows), windows]

/-- The walk leaves the pointer in the ring (R71). -/
theorem Ring.Fits.ringAfter {r : Fin 4} {x : Ring} (fits : x.Fits (env.cfg.rings.get r)) :
    (ringAfter env h m r x).Fits (env.cfg.rings.get r) := by
  obtain ⟨inside, same⟩ := fits
  unfold Machine.ringAfter
  dsimp only
  split
  · exact ⟨walkRing_pointer_lt same _ inside, same⟩
  · exact ⟨inside, same⟩

theorem Works.KeepsRings.of_change {t : Works} (rings : t.rings = w.rings.change (ringAfter env h m)) :
    w.KeepsRings env.cfg t := fun r fits => by
  rw [rings, Bank.get_change]
  exact fits.ringAfter env h m

theorem Works.positionEvent_delivers : w.Delivers env h (w.positionEvent env h m) :=
  ⟨.of_change w env h m (w.positionEvent_rings env h m), (w.positionEvent_follow env h m).1⟩

theorem Works.silentPassage_delivers : w.Delivers env h (w.silentPassage env h m) := by
  rw [Works.silentPassage_eq]
  exact .recomputeOn (w := w) (env := env) (w.passed env h m) (.of_change w env h m rfl) rfl h

/-- An epoch change sends pointers to 0, which a ring that fits has (R76). -/
theorem Works.ringsEpoch_keepsRings : w.KeepsRings env.cfg (w.ringsEpoch env h) := fun r fits => by
  rw [Works.ringsEpoch, Bank.get_change]
  split
  · exact ⟨fits.1.pos, fits.2⟩
  · exact fits

theorem Works.epochChange_delivers : w.Delivers env h (w.epochChange env h) := by
  rw [Works.epochChange_eq]
  exact .recomputeOn (w := w) (env := env) (w.renewed env h) (w.ringsEpoch_keepsRings env h) rfl h

theorem Works.becomesActive_delivers : w.Delivers env h (w.becomesActive env h) := by
  have rings : (w.queueActive env h).rings = w.rings := by rw [Works.queueActive, Works.removeMissed_eq]
  have windows : (w.queueActive env h).windows = w.windows := by rw [Works.queueActive, Works.removeMissed_eq]
  exact .recomputeOn (w := w) (env := env) (w.queueActive env h) (.of_eq rings) windows h

theorem Works.stopsBeingActive_delivers : w.Delivers env h (w.stopsBeingActive env h) := by
  rw [Works.stopsBeingActive_eq]
  exact .recomputeOn (w := w) (env := env) { w with outputs := releasedOn h (fun _ => true) w.outputs } (.of_eq rfl) rfl h

end Events

/-! ### All windows -/

/-- The windows of a list without repeats recompute, each once. -/
theorem Works.recomputes_windows (w : Works) (env : Env) (l : List (Fin 8)) (nodup : l.Nodup) (k : Fin 8) :
    (l.foldl (fun w k => w.recompute env k) w).windows.get k =
      if k ∈ l then { w.windows.get k with flag := w.windowFlag env k } else w.windows.get k := by
  induction l generalizing w with
  | nil => simp
  | cons j js ih =>
    obtain ⟨fresh, nodup'⟩ := List.nodup_cons.mp nodup
    rw [List.foldl_cons, ih _ nodup']
    by_cases e : j = k
    · subst e
      rw [if_neg fresh, if_pos List.mem_cons_self, Works.recompute_windows, if_pos rfl]
    · have other : (w.recompute env j).windows.get k = w.windows.get k := by rw [Works.recompute_windows, if_neg e]
      rw [other, Works.windowFlag_congr env other]
      exact if_congr (by simp [Ne.symm e]) rfl rfl

theorem Works.recomputeAll_recomputes (w : Works) (env : Env) (k : Fin 8) : w.Recomputes env k (w.recomputeAll env) :=
  (w.recomputes_windows env (List.finRange 8) (List.nodup_finRange 8) k).trans (if_pos (List.mem_finRange k))

theorem Works.recomputeAll_rings (w : Works) (env : Env) : (w.recomputeAll env).rings = w.rings := by
  rw [w.recomputeAll_frame env]

/-- Once every window has recomputed, all flags are those that the axes give (R85). -/
theorem State.recomputeAll_windowsSound (s : State) : (s.withWorks (s.works.recomputeAll s.env)).WindowsSound :=
  fun k => (s.works.recomputeAll_recomputes s.env k).sound

end Sys2Proof.Machine
end

section
/-! What every step keeps of the cam rings and the windows: pointers in range (R69), and flags that the axes give (R80). Each
part of a step keeps both. -/

namespace Sys2Proof.Machine

/-- From `s` to `t` the rings stay in range and the flags true, each for itself. -/
structure State.KeepsCams (s t : State) : Prop where
  rings : s.RingsSound → t.RingsSound
  windows : s.WindowsSound → t.WindowsSound

section

variable {s t u : State}

theorem State.KeepsCams.refl (s : State) : s.KeepsCams s := ⟨id, id⟩

theorem State.KeepsCams.trans (a : s.KeepsCams t) (b : t.KeepsCams u) : s.KeepsCams u :=
  ⟨b.rings ∘ a.rings, b.windows ∘ a.windows⟩

/-- The same, the later part first. -/
theorem State.KeepsCams.after (b : t.KeepsCams u) (a : s.KeepsCams t) : s.KeepsCams u := a.trans b

theorem State.KeepsCams.foldl {α : Type} {f : State → α → State} (one : ∀ (s : State) (x : α), s.KeepsCams (f s x))
    (l : List α) (s : State) : s.KeepsCams (l.foldl f s) :=
  foldl_frame f State.KeepsCams .refl (fun _ _ _ a b => a.trans b) one l s

/-! ### Updates of the station -/

theorem State.RingsSound.of_keepsRings (cfg : t.cfg = s.cfg) (rings : s.works.KeepsRings s.cfg t.works) (sound : s.RingsSound) :
    t.RingsSound := fun r used => by
  rw [cfg] at used ⊢
  exact rings r (sound r used)

/-- No window changes, and no ACTIVE axis. -/
theorem State.KeepsCams.still (cfg : t.cfg = s.cfg)
    (axis : ∀ h, t.env.active h = s.env.active h ∧ (s.env.active h = true → t.env.position h = s.env.position h))
    (rings : s.works.KeepsRings s.cfg t.works) (windows : t.works.windows = s.works.windows) : s.KeepsCams t := by
  refine ⟨.of_keepsRings cfg rings, fun sound k => ?_⟩
  have window : t.works.windows.get k = s.works.windows.get k := by rw [windows]
  rw [window, Works.windowFlag_stays (a := s.env) cfg window fun h _ => axis h]
  exact sound k

/-- Neither axes nor rings nor windows change. -/
theorem State.KeepsCams.quiet (cfg : t.cfg = s.cfg) (axes : t.axes = s.axes) (mirrors : t.mirrors = s.mirrors)
    (rings : t.works.rings = s.works.rings) (windows : t.works.windows = s.works.windows) : s.KeepsCams t :=
  .still cfg (fun h => (Env.axes_decide (a := t.env) (b := s.env) axes mirrors h).imp_right fun e _ => e) (.of_eq rings) windows

theorem State.withWorks_keepsCams {w : Works} (rings : w.rings = s.works.rings) (windows : w.windows = s.works.windows) :
    s.KeepsCams (s.withWorks w) := .quiet rfl rfl rfl rings windows

theorem State.withBus_keepsCams (b : Bus) : s.KeepsCams (s.withBus b) := .quiet rfl rfl rfl rfl rfl

theorem State.raise_keepsCams (k : NoticeKind) : s.KeepsCams (s.raise k) := withWorks_keepsCams rfl rfl

theorem State.refreshLines_keepsCams : s.KeepsCams s.refreshLines := withWorks_keepsCams rfl rfl

theorem State.withEntry_keepsCams (n : Fin 32) (e : RosterEntry) : s.KeepsCams (s.withEntry n e) := .quiet rfl rfl rfl rfl rfl

theorem State.withHoldIn_keepsCams (x : HoldIn) : s.KeepsCams (s.withHoldIn x) := .quiet rfl rfl rfl rfl rfl

theorem State.withCommand_keepsCams (c : CommandUnit) : s.KeepsCams (s.withCommand c) := .quiet rfl rfl rfl rfl rfl

theorem State.withRule_keepsCams (k : Fin 8) (r : Rule) : s.KeepsCams (s.withRule k r) := .quiet rfl rfl rfl rfl rfl

theorem State.withSensor_keepsCams (k : Fin 4) (x : Sensor) : s.KeepsCams (s.withSensor k x) := withWorks_keepsCams rfl rfl

theorem State.draw_keepsCams : s.KeepsCams (s.withWorks s.works.draw.2) := withWorks_keepsCams rfl rfl

/-- One ring takes a value that fits when the one before did. -/
theorem State.withRing_keepsCams {r : Fin 4} {x : Ring}
    (fits : (s.works.rings.get r).Fits (s.cfg.rings.get r) → x.Fits (s.cfg.rings.get r)) : s.KeepsCams (s.withRing r x) := by
  refine .still rfl (fun _ => ⟨rfl, fun _ => rfl⟩) (fun j before => ?_) rfl
  change ((s.works.rings.put r x).get j).Fits _
  rw [Bank.get_put]
  split
  · rename_i e
    subst e
    exact fits before
  · exact before

/-! ### What a handle delivers -/

/-- One handle changes and delivers its event: the windows on other handles stay. -/
theorem State.KeepsCams.handle {h : Handle} (cfg : t.cfg = s.cfg)
    (others : ∀ k, k ≠ h → t.env.active k = s.env.active k ∧ t.env.position k = s.env.position k)
    (event : s.works.Delivers t.env h t.works) : s.KeepsCams t := by
  refine ⟨.of_keepsRings cfg (cfg ▸ event.rings), fun sound k => ?_⟩
  have window := event.windows k
  split at window
  · exact Works.Recomputes.sound window
  · rename_i elsewhere
    have flag : t.works.windowFlag t.env k = s.works.windowFlag s.env k :=
      Works.windowFlag_stays cfg window fun j used =>
        (others j fun e => elsewhere (by rw [State.env_cfg, cfg]; exact e ▸ used)).imp_right fun e _ => e
    rw [window, flag]
    exact sound k

/-- Local axis `i` becomes `x` and delivers its event. -/
theorem State.KeepsCams.axis {i : Fin 2} {x : LocalAxis} (cfg : t.cfg = s.cfg) (axes : t.axes = s.axes.put i x)
    (mirrors : t.mirrors = s.mirrors) (event : s.works.Delivers t.env (localHandle i) t.works) : s.KeepsCams t := by
  have reads := Env.axes_decide (a := t.env) (b := { s.env with axes := s.env.axes.put i x }) axes mirrors
  refine .handle cfg (fun k ne => ?_) event
  obtain ⟨active, position⟩ := Env.other_than_local (env := s.env) (x := x) ne
  exact ⟨(reads k).1.trans active, (reads k).2.trans position⟩

/-- Mirror `i` becomes `m` and delivers its event. -/
theorem State.KeepsCams.mirror {i : Fin 6} {m : Mirror} (cfg : t.cfg = s.cfg) (axes : t.axes = s.axes)
    (mirrors : t.mirrors = s.mirrors.put i m) (event : s.works.Delivers t.env (mirrorHandle i) t.works) : s.KeepsCams t := by
  have reads := Env.axes_decide (a := t.env) (b := { s.env with mirrors := s.env.mirrors.put i m }) axes mirrors
  refine .handle cfg (fun k ne => ?_) event
  obtain ⟨active, position⟩ := Env.other_than_mirror (env := s.env) (m := m) ne
  exact ⟨(reads k).1.trans active, (reads k).2.trans position⟩

theorem Env.active_local_iff (env : Env) (i : Fin 2) :
    env.active (localHandle i) = true ↔ (env.axes.get i).state = .active := by
  rw [Env.active_localHandle, decide_eq_true_iff]

theorem Env.active_mirror_iff (env : Env) (i : Fin 6) :
    env.active (mirrorHandle i) = true ↔ (env.mirrors.get i).state = .active := by
  rw [Env.active, axisRef_mirrorHandle]
  exact decide_eq_true_iff

/-- An axis that delivers nothing keeps its state and its position. -/
theorem State.withAxis_keepsCams {i : Fin 2} {x : LocalAxis} (state : x.state = (s.axes.get i).state)
    (position : x.position = (s.axes.get i).position) : s.KeepsCams (s.withAxis i x) := by
  refine .still rfl (fun h => ?_) (.of_eq rfl) rfl
  by_cases e : h = localHandle i
  · subst e
    refine ⟨Bool.eq_iff_iff.mpr ?_, fun _ => ?_⟩
    · rw [Env.active_local_iff, Env.active_local_iff, State.env_axes, State.withAxis_axes, Bank.get_put_self, state]
      rfl
    · simp [Env.position, position]
  · exact (Env.other_than_local (env := s.env) (x := x) e).imp_right fun e _ => e

/-- A mirror that delivers nothing stays ACTIVE where it is, or stays not ACTIVE. -/
theorem State.withMirror_keepsCams {i : Fin 6} {m : Mirror} (state : m.state = .active ↔ (s.mirrors.get i).state = .active)
    (position : m.state = .active → m.position = (s.mirrors.get i).position) : s.KeepsCams (s.withMirror i m) := by
  refine .still rfl (fun h => ?_) (.of_eq rfl) rfl
  by_cases e : h = mirrorHandle i
  · subst e
    refine ⟨Bool.eq_iff_iff.mpr ?_, fun active => ?_⟩
    · rw [Env.active_mirror_iff, Env.active_mirror_iff, State.env_mirrors, State.withMirror_mirrors, Bank.get_put_self, state]
      rfl
    · simpa [Env.position] using position (state.mpr ((Env.active_mirror_iff ..).mp active))
  · exact (Env.other_than_mirror (env := s.env) (m := m) e).imp_right fun e _ => e

end

/-! ### Local axes -/

section LocalAxes

variable (s : State) (i : Fin 2)

theorem State.count_keepsCams (d : Direction) : s.KeepsCams (s.count i d) := by
  by_cases active : (s.axes.get i).state = .active
  · rw [State.count_eq active]
    exact .axis rfl (State.counted_axes d) rfl (Works.positionEvent_delivers ..)
  · rw [State.count, if_neg active]
    exact .refl s

theorem State.encoderFault_keepsCams : s.KeepsCams (s.encoderFault i) :=
  State.refreshLines_keepsCams.after
    (.axis rfl rfl rfl (.congr (v := s.works.raise (s.withAxis i { s.axes.get i with state := .faulted }).env .encoderFault)
      rfl rfl (Works.stopsBeingActive_delivers ..)))

theorem State.originEvent_keepsCams (v : Pos) : s.KeepsCams (s.originEvent i v) :=
  State.refreshLines_keepsCams.after (.axis rfl rfl rfl (Works.epochChange_delivers ..))

theorem State.quadSample_keepsCams (a b a' b' : Bool) : s.KeepsCams (s.quadSample i a b a' b') := by
  unfold State.quadSample
  split
  · exact .refl s
  · exact s.count_keepsCams i _
  · exact s.encoderFault_keepsCams i

theorem State.pulseDirSample_keepsCams (a a' b' : Bool) : s.KeepsCams (s.pulseDirSample i a a' b') := by
  unfold State.pulseDirSample
  split
  · exact s.count_keepsCams i _
  · exact .refl s

theorem State.upDownSample_keepsCams (a b a' b' : Bool) : s.KeepsCams (s.upDownSample i a b a' b') := by
  unfold State.upDownSample
  dsimp only
  split
  · refine State.draw_keepsCams.trans ?_
    split
    · exact (State.count_keepsCams _ i _).trans (State.count_keepsCams _ i _)
    · exact (State.count_keepsCams _ i _).trans (State.count_keepsCams _ i _)
  · split
    · exact s.count_keepsCams i _
    · split
      · exact s.count_keepsCams i _
      · exact .refl s

theorem State.sampleAB_keepsCams (a b : Bool) : s.KeepsCams (s.sampleAB i a b) := by
  have sampled : s.KeepsCams (s.withAxis i { s.axes.get i with refA := a, refB := b }) := State.withAxis_keepsCams rfl rfl
  unfold State.sampleAB
  dsimp only
  refine sampled.trans ?_
  split
  · split
    · exact .refl _
    · exact State.quadSample_keepsCams _ i _ _ _ _
    · exact State.pulseDirSample_keepsCams _ i _ _ _
    · exact State.upDownSample_keepsCams _ i _ _ _ _
  · exact .refl _

theorem State.sampleZ_keepsCams (z : Bool) : s.KeepsCams (s.sampleZ i z) := by
  have sampled : s.KeepsCams (s.withAxis i { s.axes.get i with refZ := z }) := State.withAxis_keepsCams rfl rfl
  unfold State.sampleZ
  dsimp only
  refine sampled.trans ?_
  split
  · split
    · exact State.originEvent_keepsCams _ i _
    · exact .refl _
  · exact .refl _

end LocalAxes

/-! ### Mirrors -/

section Mirrors

variable (s : State)

theorem State.staleMirror_keepsCams (i : Fin 6) : s.KeepsCams (s.staleMirror i) := by
  unfold State.staleMirror
  dsimp only
  split
  · exact .mirror rfl rfl rfl
      (.congr (v := s.works.raise (s.withMirror i { s.mirrors.get i with state := .stale }).env .mirrorStale) rfl rfl
        (Works.stopsBeingActive_delivers ..))
  · exact .refl s

theorem State.stalePublished_keepsCams (n : Station) (keep : List (Fin 6)) : s.KeepsCams (s.stalePublished n keep) :=
  .foldl (fun s i => by
    split
    · exact s.staleMirror_keepsCams i
    · exact .refl s) _ s

theorem State.silentPassage_keepsCams (h : Handle) (m : Move) : s.KeepsCams (s.silentPassage h m) :=
  .handle rfl (fun _ _ => ⟨rfl, rfl⟩) (Works.silentPassage_delivers ..)

/-- A report (R105 to R110) delivers its events, or leaves its mirror where it was. -/
theorem State.applyReport_keepsCams (i : Fin 6) (r : AxisReport) : s.KeepsCams (s.applyReport i r) := by
  have activates : s.KeepsCams ((s.withMirror i ((s.mirrors.get i).takes r)).becomesActive (mirrorHandle i)) :=
    .mirror rfl rfl rfl (Works.becomesActive_delivers ..)
  unfold State.applyReport
  dsimp only
  split
  · split
    · exact .mirror rfl rfl rfl (Works.stopsBeingActive_delivers ..)
    · rename_i off
      exact State.withMirror_keepsCams (iff_of_false nofun off) nofun
  · split
    · exact .mirror rfl rfl rfl (Works.epochChange_delivers ..)
    · split
      · exact activates
      · rename_i active
        split
        · rename_i none
          exact State.withMirror_keepsCams (iff_of_true rfl active) fun _ => (moveOf_none none).symm
        · split
          · exact .mirror rfl rfl rfl (Works.positionEvent_delivers ..)
          · exact .mirror rfl rfl rfl
              (.congr (v := s.works.raise (s.withMirror i ((s.mirrors.get i).takes r)).env .mirrorJump) rfl rfl
                (Works.silentPassage_delivers ..))
      · split
        · exact activates
        · exact activates.trans (State.silentPassage_keepsCams _ _ _)

theorem State.restartMirror_keepsCams (i : Fin 6) : s.KeepsCams (s.restartMirror i) := by
  unfold State.restartMirror
  dsimp only
  split
  · exact .mirror rfl rfl rfl (Works.stopsBeingActive_delivers ..)
  · rename_i off
    exact State.withMirror_keepsCams (iff_of_false nofun off) nofun

end Mirrors

/-! ### Tags and sensors -/

section Sensors

variable (s : State) (k : Fin 4)

theorem Works.OffersOnly.rings {a b : Works} (x : a.OffersOnly b) : b.rings = a.rings := by
  unfold OffersOnly at x; rw [x]

/-- Offers reach neither rings nor windows. -/
theorem State.KeepsCams.offers {s : State} {w : Works} (x : s.works.OffersOnly w) : s.KeepsCams (s.withWorks w) :=
  State.withWorks_keepsCams x.rings x.windows

theorem Works.localTag_cams (w : Works) (env : Env) (h : Handle) (t : Tag) :
    (w.localTag env h k t).rings = w.rings ∧ (w.localTag env h k t).windows = w.windows := by
  obtain ⟨c, e | e⟩ := w.localTag_cases env h k t
  · have hands := Works.OffersOnly.trans _ _ _ (Works.rulesTake_frame { w with choice := c } env h (.sensor k) t)
      (Works.publish_frame _ env k t)
    exact e ▸ ⟨hands.rings, hands.windows⟩
  · have hands := Works.OffersOnly.trans _ _ _ (Works.publish_frame { w with choice := c } env k t)
      (Works.rulesTake_frame _ env h (.sensor k) t)
    exact e ▸ ⟨hands.rings, hands.windows⟩

theorem State.makeTag_keepsCams (h : Handle) (id : BitVec 6) : s.KeepsCams (s.makeTag k h id) := by
  obtain ⟨rings, windows⟩ := s.works.localTag_cams k s.env h (s.capturedTag k h id)
  rw [State.makeTag_eq]
  exact .quiet rfl rfl rfl rings windows

theorem State.capture_keepsCams : s.KeepsCams (s.capture k) := by
  unfold State.capture
  split
  · exact .refl s
  · split
    · split
      · exact s.makeTag_keepsCams k _ _
      · exact .refl s
    · exact State.raise_keepsCams _

theorem State.sensorEdge_keepsCams (level : Bool) : s.KeepsCams (s.sensorEdge k level) := by
  unfold State.sensorEdge
  split
  · exact s.capture_keepsCams k
  · exact .refl s

theorem State.qualify_keepsCams : s.KeepsCams (s.qualify k) :=
  (State.withSensor_keepsCams _ _).trans (State.sensorEdge_keepsCams _ k _)

theorem State.sensorSample_keepsCams (level : Bool) : s.KeepsCams (s.sensorSample k level) := by
  unfold State.sensorSample
  dsimp only
  split
  · exact State.withSensor_keepsCams _ _
  · split
    · exact State.withSensor_keepsCams _ _
    · split
      · exact (State.withSensor_keepsCams _ _).trans (State.qualify_keepsCams _ k)
      · split <;> exact State.withSensor_keepsCams _ _

theorem State.qualifyPending_keepsCams : s.KeepsCams (s.qualifyPending k) := by
  unfold State.qualifyPending
  split
  · exact s.qualify_keepsCams k
  · exact .refl s

theorem State.holdInQualified_keepsCams : s.KeepsCams s.holdInQualified := by
  unfold State.holdInQualified
  split
  · exact (State.withHoldIn_keepsCams _).trans State.refreshLines_keepsCams
  · exact .refl s

theorem State.remoteTag_keepsCams (t : Tag) : s.KeepsCams (s.withWorks (s.works.remoteTag s.env t)) := by
  unfold Works.remoteTag
  split
  · exact State.raise_keepsCams _
  · split
    · exact State.raise_keepsCams _
    · exact .offers (Works.rulesTake_frame ..)

end Sensors

/-! ### Console commands -/

section Commands

variable (s : State)

/-- A trim changes one position, and no length (R78). -/
theorem State.trimCam_keepsCams (ring entry : Byte) (position : BitVec 32) :
    s.KeepsCams (s.trimCam ring entry position).state := by
  unfold State.trimCam
  split
  · exact .refl s
  · split
    · exact .refl s
    · dsimp only
      split
      · exact State.withRing_keepsCams fun ⟨inside, same⟩ => ⟨inside, List.length_set.trans same⟩
      · exact .refl s

/-- A ring is armed at one of its entries (R77). -/
theorem State.armRing_keepsCams (index arm start : Byte) : s.KeepsCams (s.armRing index arm start).state := by
  unfold State.armRing
  split
  · dsimp only
    split
    · split
      · split
        · rename_i inside
          exact State.withRing_keepsCams fun ⟨_, same⟩ => ⟨inside, same⟩
        · exact .refl s
      · exact State.withRing_keepsCams id
    · exact .refl s
  · exact .refl s

/-- A window whose bounds are set recomputes at once (R82). -/
theorem State.bounded_keepsCams (k : Fin 8) (lower upper : Pos) :
    s.KeepsCams (s.withWorks ((s.works.bounded k lower upper).recompute s.env k)) := by
  have frame := s.works.bounded_recompute_frame s.env k lower upper
  unfold Works.WindowsOnly at frame
  refine ⟨.of_keepsRings rfl (.of_eq (by rw [State.withWorks_works, frame])), fun sound j => ?_⟩
  have window := (s.works.bounded k lower upper).recompute_windows s.env k j
  split at window
  · rename_i e
    subst e
    exact Works.Recomputes.sound window
  · rename_i other
    have same := window.trans (Bank.get_put_ne _ _ other)
    rw [State.withWorks_works, State.withWorks_env, same, Works.windowFlag_congr s.env same]
    exact sound j

theorem State.trimWindow_keepsCams (window : Byte) (lower upper : BitVec 32) :
    s.KeepsCams (s.trimWindow window lower upper).state := by
  unfold State.trimWindow
  split
  · exact .refl s
  · split
    · exact .refl s
    · dsimp only
      split
      · exact s.bounded_keepsCams _ lower upper
      · exact .refl s

theorem State.trimRule_keepsCams (rule : Byte) (offset : BitVec 32) : s.KeepsCams (s.trimRule rule offset).state := by
  unfold State.trimRule
  split
  · exact .refl s
  · split
    · exact State.withRule_keepsCams _ _
    · exact .refl s

theorem State.armRule_keepsCams (index arm : Byte) : s.KeepsCams (s.armRule index arm).state := by
  unfold State.armRule
  split
  · exact State.withRule_keepsCams _ _
  · exact .refl s

theorem State.onLocalAxis_keepsCams {handle : Byte} {f : Fin 2 → Answer} (effect : ∀ i, s.KeepsCams (f i).state) :
    s.KeepsCams (s.onLocalAxis handle f).state := by
  unfold State.onLocalAxis
  split
  · exact .refl s
  · split
    · exact .refl s
    · exact effect _

theorem State.setOrigin_keepsCams (handle : Byte) (value : BitVec 32) : s.KeepsCams (s.setOrigin handle value).state :=
  s.onLocalAxis_keepsCams fun i => by
    split
    · exact s.originEvent_keepsCams i value
    · exact .refl s

theorem State.armIndex_keepsCams (handle : Byte) (value : BitVec 32) : s.KeepsCams (s.armIndex handle value).state :=
  s.onLocalAxis_keepsCams fun i => by
    split
    · exact State.withAxis_keepsCams rfl rfl
    · exact .refl s

theorem State.cancelIndex_keepsCams (handle : Byte) : s.KeepsCams (s.cancelIndex handle).state :=
  s.onLocalAxis_keepsCams fun _ => State.withAxis_keepsCams rfl rfl

theorem State.injectEntry_keepsCams (requester : Station) (handle : Byte) (due : BitVec 32) (sequence : BitVec 16)
    (tagClass : BitVec 4) (forward : Bool) (action : Option Action) :
    s.KeepsCams (s.injectEntry requester handle due sequence tagClass forward action).state := by
  unfold State.injectEntry
  split
  · exact .refl s
  · split
    · exact .offers (Works.offer_frame ..)
    · exact .refl s

theorem State.clearQueue_keepsCams (handle : Byte) : s.KeepsCams (s.clearQueue handle).state := by
  unfold State.clearQueue
  split
  · exact State.withWorks_keepsCams rfl rfl
  · split
    · exact .refl s
    · exact State.withWorks_keepsCams rfl rfl

theorem State.pulseOutput_keepsCams (line : Byte) (width : BitVec 16) : s.KeepsCams (s.pulseOutput line width).state := by
  unfold State.pulseOutput
  split
  · exact .refl s
  · split
    · exact .refl s
    · split
      · exact .refl s
      · exact State.withWorks_keepsCams (by rw [Works.act_frame]) (by rw [Works.act_frame])

theorem State.perform_keepsCams (requester : Station) (c : Cmd) : s.KeepsCams (s.perform requester c).state := by
  cases c with
  | readStatus page handle => exact (s.readStatus_state page handle).symm ▸ .refl s
  | readQueue handle index => exact (s.readQueue_state handle index).symm ▸ .refl s
  | trimCam ring entry position => exact s.trimCam_keepsCams ring entry position
  | trimRule rule offset => exact s.trimRule_keepsCams rule offset
  | trimWindow window lower upper => exact s.trimWindow_keepsCams window lower upper
  | armRule index arm start => exact s.armRule_keepsCams index arm
  | armRing index arm start => exact s.armRing_keepsCams index arm start
  | setOrigin handle value => exact s.setOrigin_keepsCams handle value
  | armIndex handle value => exact s.armIndex_keepsCams handle value
  | armIndexCancel handle => exact s.cancelIndex_keepsCams handle
  | injectEntry handle due sequence tagClass forward action =>
    exact s.injectEntry_keepsCams requester handle due sequence tagClass forward action
  | clearQueue handle => exact s.clearQueue_keepsCams handle
  | clearCounts => exact State.withWorks_keepsCams rfl rfl
  | pulseOutput line width => exact s.pulseOutput_keepsCams line width
  | restart => exact State.withCommand_keepsCams _
  | unfit code => exact .refl s
  | unknown code => exact .refl s

theorem State.execute_keepsCams (requester : Station) (c : Cmd) : s.KeepsCams (s.execute requester c).state := by
  unfold State.execute
  split
  · exact .refl s
  · split
    · exact .refl s
    · split
      · exact .refl s
      · exact s.perform_keepsCams requester c

theorem Answer.deliver_keepsCams (a : Answer) (requester : Station) (tid : Byte) (c : Cmd) :
    a.state.KeepsCams (a.deliver requester tid c) := by
  rw [Answer.deliver_eq]
  split <;> exact .quiet rfl rfl rfl rfl rfl

theorem State.takeCommand_keepsCams (requester : Station) (tid : Byte) (c : Cmd) :
    s.KeepsCams (s.takeCommand requester tid c) := by
  unfold State.takeCommand
  split
  · exact .refl s
  · split
    · exact State.raise_keepsCams _
    · split
      · exact State.withWorks_keepsCams rfl rfl
      · exact (s.execute_keepsCams requester c).trans (Answer.deliver_keepsCams ..)

end Commands

/-! ### The roster and the items of a frame -/

section Frames

variable (s : State)

theorem State.miss_keepsCams (j : Station) : s.KeepsCams (s.miss j) := by
  unfold State.miss
  dsimp only
  split
  · split
    · exact (State.withEntry_keepsCams _ _).trans (State.stalePublished_keepsCams _ _ _)
    · exact (State.withEntry_keepsCams _ _).trans ((State.raise_keepsCams _).trans
        ((State.stalePublished_keepsCams _ _ _).trans State.refreshLines_keepsCams))
  · exact .refl s

theorem State.countMisses_keepsCams (a : Option Station) (k : Station) : s.KeepsCams (s.countMisses a k) := by
  unfold State.countMisses
  split
  · exact .refl s
  · refine State.KeepsCams.foldl (fun s d => ?_) _ s
    dsimp only
    split
    · exact s.miss_keepsCams _
    · exact .refl s

theorem State.applyHeader_keepsCams (a : Option Station) (source : Station) (hold : Bool) :
    s.KeepsCams (s.applyHeader a source hold) :=
  (s.countMisses_keepsCams a source).trans ((State.withEntry_keepsCams _ _).trans State.refreshLines_keepsCams)

theorem State.applyAxisItem_keepsCams (source : Station) (r : AxisReport) : s.KeepsCams (s.applyAxisItem source r).2 := by
  unfold State.applyAxisItem
  split
  · exact .refl s
  · split
    · exact State.raise_keepsCams _
    · split
      · exact .refl s
      · dsimp only
        split
        · exact State.raise_keepsCams _
        · split
          · exact State.raise_keepsCams _
          · exact s.applyReport_keepsCams _ r

theorem State.applyItem_keepsCams (source : Station) (taken : List (Fin 6)) (i : Item) :
    s.KeepsCams (s.applyItem source taken i).2 := by
  unfold State.applyItem
  split
  · split
    · exact State.raise_keepsCams _
    · exact s.applyAxisItem_keepsCams source _
  · split
    · exact State.raise_keepsCams _
    · split
      · exact s.remoteTag_keepsCams _
      · exact .refl s
  · split
    · exact State.raise_keepsCams _
    · split
      · exact s.takeCommand_keepsCams source _ _
      · exact .refl s
  · exact .refl s

theorem State.applyItems_keepsCams (source : Station) (taken : List (Fin 6)) (l : List Item) :
    s.KeepsCams (s.applyItems source taken l).2 := by
  induction l generalizing s taken with
  | nil => exact .refl s
  | cons i rest ih => exact (s.applyItem_keepsCams source taken i).trans (ih _ _)

theorem State.applyBody_keepsCams (f : Frame) : s.KeepsCams (s.applyBody f) :=
  (s.applyItems_keepsCams _ _ _).trans (State.stalePublished_keepsCams _ _ _)

end Frames

/-! ### The bus -/

section BusControl

variable (s : State)

theorem State.join_keepsCams : s.KeepsCams s.join := .quiet rfl rfl rfl rfl rfl

theorem State.lockOut_keepsCams : s.KeepsCams s.lockOut := .quiet rfl rfl rfl rfl rfl

theorem State.busSample_keepsCams (x : BusSample) : s.KeepsCams (s.busSample x) := by
  unfold State.busSample
  split
  · split
    · exact State.withBus_keepsCams _
    · exact .refl s
  · exact .refl s
  · exact State.withBus_keepsCams _

theorem State.corruptFrame_keepsCams (idle : Nat) : s.KeepsCams (s.corruptFrame idle) :=
  (State.raise_keepsCams _).trans (State.withBus_keepsCams _)

theorem State.ownNumberFrame_keepsCams : s.KeepsCams s.ownNumberFrame := by
  unfold State.ownNumberFrame
  dsimp only
  split
  · exact State.withBus_keepsCams _
  · exact (State.withBus_keepsCams _).trans (State.lockOut_keepsCams _)

theorem State.acceptFrame_keepsCams (f : Frame) : s.KeepsCams (s.acceptFrame f) := by
  unfold State.acceptFrame
  dsimp only
  have heard : s.KeepsCams ((s.withWorks (s.works.count framesReceived)).applyHeader s.bus.anchor f.source f.hold) :=
    (State.applyHeader_keepsCams _ _ _ _).after (State.withWorks_keepsCams rfl rfl)
  generalize (s.withWorks (s.works.count framesReceived)).applyHeader s.bus.anchor f.source f.hold = t at heard ⊢
  refine heard.trans ((State.withBus_keepsCams ((t.bus.frameEnded (some f.source) 0).record f.source)).trans ?_)
  split
  · split
    · exact (State.applyBody_keepsCams _ f).trans (State.join_keepsCams _)
    · refine State.draw_keepsCams.trans ?_
      split
      · exact (State.applyBody_keepsCams _ f).trans (State.join_keepsCams _)
      · exact (State.join_keepsCams _).trans (State.applyBody_keepsCams _ f)
  · exact State.applyBody_keepsCams _ f

theorem State.judgeFrame_keepsCams (bytes : List Byte) : s.KeepsCams (s.judgeFrame bytes) := by
  unfold State.judgeFrame
  split
  · exact s.corruptFrame_keepsCams 0
  · split
    · exact s.ownNumberFrame_keepsCams
    · exact s.acceptFrame_keepsCams _

theorem State.frameEnd_keepsCams (bytes : List Byte) : s.KeepsCams (s.frameEnd bytes) := by
  unfold State.frameEnd
  split
  · exact State.withBus_keepsCams _
  · exact State.withBus_keepsCams _
  · exact s.corruptFrame_keepsCams 0
  · dsimp only
    split
    · exact s.judgeFrame_keepsCams _
    · exact (s.judgeFrame_keepsCams _).trans (State.withBus_keepsCams _)

theorem State.idleEnd_keepsCams : s.KeepsCams s.idleEnd := by
  unfold State.idleEnd
  dsimp only
  split
  · exact State.withBus_keepsCams _
  · exact State.withBus_keepsCams _
  · exact s.corruptFrame_keepsCams _

theorem State.emptyBus_keepsCams : s.KeepsCams s.emptyBus := by
  unfold State.emptyBus
  split
  · exact (State.withBus_keepsCams _).trans (State.join_keepsCams _)
  · exact .refl s

theorem State.startFrame_keepsCams : s.KeepsCams s.startFrame := by
  unfold State.startFrame
  split
  · exact State.withBus_keepsCams _
  · exact .refl s

theorem State.completeRoster_keepsCams (a : Option Station) (f : Flight) : s.KeepsCams (s.completeRoster a f) :=
  (State.withEntry_keepsCams _ _).trans ((State.countMisses_keepsCams _ _ _).trans State.refreshLines_keepsCams)

theorem State.completeFrame_keepsCams (f : Flight) : s.KeepsCams (s.completeFrame f) := by
  unfold State.completeFrame
  dsimp only
  let ended : Bus := { s.bus.frameEnded (some s.bus.number) 0 with flight := none, rxd := true }
  refine State.KeepsCams.trans (t := (s.withBus ended).withWorks (s.works.completeItems f)) (.quiet rfl rfl rfl rfl rfl) ?_
  split
  · exact (State.completeRoster_keepsCams _ _ f).after (State.withWorks_keepsCams rfl rfl)
  · split
    · exact (State.completeRoster_keepsCams _ _ f).after (State.withWorks_keepsCams rfl rfl)
    · exact State.draw_keepsCams.trans ((State.completeRoster_keepsCams _ _ f).trans (State.withWorks_keepsCams rfl rfl))

theorem State.recomputeAll_keepsCams : s.KeepsCams (s.withWorks (s.works.recomputeAll s.env)) :=
  ⟨.of_keepsRings rfl (.of_eq (Works.recomputeAll_rings ..)), fun _ => s.recomputeAll_windowsSound⟩

/-- A warm restart sends the pointers to 0 (R84); the local axes stand where they are. -/
theorem State.warmRestart_keepsCams : s.KeepsCams s.warmRestart := by
  unfold State.warmRestart
  dsimp only
  refine (State.recomputeAll_keepsCams _).after (State.refreshLines_keepsCams.after
    ((State.KeepsCams.foldl (fun s i => s.restartMirror_keepsCams i) _ _).after ?_))
  refine .still rfl (fun h => ?_) (fun r fits => ?_) rfl
  · cases e : axisRef h with
    | loc i =>
      obtain rfl := eq_localHandle e
      refine ⟨Bool.eq_iff_iff.mpr ?_, fun _ => ?_⟩
      · rw [Env.active_local_iff, Env.active_local_iff]
        simp
      · simp [Env.position]
    | mir i =>
      obtain rfl := eq_mirrorHandle e
      exact ⟨Bool.eq_iff_iff.mpr (by rw [Env.active_mirror_iff, Env.active_mirror_iff]; rfl), fun _ => by simp [Env.position]⟩
  · rw [show (s.works.restart.rings.get r) = { s.works.rings.get r with pointer := 0 } from Bank.get_change ..]
    exact ⟨fits.1.pos, fits.2⟩

theorem State.complete_keepsCams : s.KeepsCams s.complete := by
  unfold State.complete
  split
  · exact .refl s
  · split
    · exact (s.completeFrame_keepsCams _).trans (State.warmRestart_keepsCams _)
    · exact s.completeFrame_keepsCams _

theorem State.abortFrame_keepsCams (x : Mismatch) : s.KeepsCams (s.abortFrame x) := by
  unfold State.abortFrame
  split
  · exact .refl s
  · exact (State.raise_keepsCams _).trans (State.withBus_keepsCams _)

end BusControl

/-! ### Start-up -/

section StartUp

variable (s : State)

/-- A station that no block has configured uses neither rings nor windows (R192). -/
theorem State.KeepsCams.unconfigured {s t : State} (cfg : t.cfg = Settings.unconfigured)
    (windows : ∀ k, (t.works.windows.get k).flag = false) : s.KeepsCams t := by
  have noRing (r : Fin 4) : (t.cfg.rings.get r).handle = none := by simp [cfg, Settings.unconfigured]
  have noWindow (k : Fin 8) : (t.cfg.windows.get k).handle = none := by simp [cfg, Settings.unconfigured]
  exact ⟨fun _ r used => absurd (noRing r) used, fun _ k =>
    (windows k).trans (Works.windowFlag_unused (env := t.env) (noWindow k)).symm⟩

theorem State.cold_keepsCams : s.KeepsCams s.cold :=
  .unconfigured rfl fun _ => congrArg Window.flag (Bank.get_fill ..)

theorem State.coldReset_keepsCams (number : Station) (rate : BitVec 2) : s.KeepsCams (s.coldReset number rate) :=
  .unconfigured rfl fun _ => congrArg Window.flag (Bank.get_fill ..)

/-- A block without a failing check passes check 11 (R190). -/
theorem Block.passes11 {b : Block} {own : Station} (none : b.failing own = none) : b.fails11 b.settings = false := by
  have passes := List.find?_eq_none.mp (Option.map_eq_none_iff.mp none)
  simpa using passes (11, b.fails11 b.settings) (by simp [Block.checks])

/-- A ring record has as many entries as its length byte says (R155). -/
theorem blockOf_ring_length (l : List Byte) (r : Fin 4) :
    ((blockOf l).rings.get r).entries.length = ((blockOf l).rings.get r).length.toNat := by
  simp [blockOf, ringAt]

/-- A ring in use of a block that passes check 11 has an entry. -/
theorem Block.ring_not_empty {l : List Byte} (passes : (blockOf l).fails11 (blockOf l).settings = false) (r : Fin 4)
    (used : ((blockOf l).settings.rings.get r).handle ≠ none) : 0 < ((blockOf l).settings.rings.get r).entries.length := by
  have setting : (blockOf l).settings.rings.get r = ((blockOf l).rings.get r).settings := Bank.get_tabulate ..
  have record := List.any_eq_false.mp passes r (List.mem_finRange r)
  rw [setting] at used ⊢
  have named : ((blockOf l).rings.get r).handle ≠ 0xFF := fun none => used (by simp [RingRecord.settings, none, handleByte])
  have length : 1 ≤ ((blockOf l).rings.get r).length.toNat := by
    simp only [inRange, Bool.or_eq_true, Bool.and_eq_true, decide_eq_true_eq, not_or, not_and, Bool.not_eq_true',
      Bool.not_eq_false] at record
    exact (record.2 named).1.2.1
  rw [RingRecord.settings, if_neg named, List.length_map, blockOf_ring_length]
  exact length

/-- The end of LOADING: pointers at 0 in rings that have entries, and every window recomputed (R85, R191). -/
theorem State.configure_keepsCams {c : Settings}
    (rings : ∀ r, (c.rings.get r).handle ≠ none → 0 < (c.rings.get r).entries.length) : s.KeepsCams (s.configure c) := by
  refine ⟨fun _ r used => ?_, fun _ => State.recomputeAll_windowsSound _⟩
  have ring : (s.configure c).works.rings.get r =
      ⟨0, (c.rings.get r).armed, (c.rings.get r).entries.map fun e => e.position⟩ :=
    (congrArg (fun x => Bank.get x r) (Works.recomputeAll_rings ..)).trans (Bank.get_tabulate ..)
  rw [ring]
  exact ⟨rings r used, List.length_map _⟩

theorem State.judgePass_keepsCams (memory : List Byte) (miso : Bool) : s.KeepsCams (s.judgePass memory miso) := by
  unfold State.judgePass
  split
  · split <;> exact .quiet rfl rfl rfl rfl rfl
  · dsimp only
    split
    · exact .quiet rfl rfl rfl rfl rfl
    · rename_i none
      exact s.configure_keepsCams (Block.ring_not_empty (Block.passes11 none))

end StartUp

/-! ### The clock -/

section Clock

variable (s : State)

theorem State.expire_keepsCams (q : Fin 8) : s.KeepsCams (s.withWorks (s.works.expire q)) :=
  State.withWorks_keepsCams (by rw [Works.expire_frame]) (by rw [Works.expire_frame])

theorem State.sound_keepsCams (a : Alarm) : s.KeepsCams (s.sound a) := by
  cases a with
  | pulse q => exact s.expire_keepsCams q
  | sensor k => exact s.qualifyPending_keepsCams k
  | holdIn => exact s.holdInQualified_keepsCams
  | frameEnd => exact s.idleEnd_keepsCams
  | emptyBus => exact s.emptyBus_keepsCams
  | wait => exact s.startFrame_keepsCams

theorem State.soundAll_keepsCams (l : List Alarm) : s.KeepsCams (s.soundAll l) :=
  .foldl (fun s a => by
    split
    · exact s.sound_keepsCams a
    · exact .refl s) l s

theorem State.tick_keepsCams : s.KeepsCams s.tick := by
  have advanced : s.KeepsCams s.advanceClock := .quiet rfl rfl rfl rfl rfl
  unfold State.tick
  split
  · exact .refl s
  · exact advanced.trans ((State.withWorks_keepsCams (by rw [Works.arrange_works]) (by rw [Works.arrange_works])).trans
      (State.soundAll_keepsCams _ _))

end Clock

/-! ### The rows -/

/-- Whatever row brought it, a command keeps the rings and the windows. -/
theorem exec_keepsCams (i : Instr) (s : State) : ∃ t, exec i s = .next t ∧ s.KeepsCams t := by
  cases i with
  | coldReset number rate => exact ⟨_, rfl, s.coldReset_keepsCams number rate⟩
  | readPass memory miso =>
    refine ⟨_, rfl, ?_⟩
    split
    · exact s.judgePass_keepsCams memory miso
    · exact .refl s
  | quad4Edge axis a b => exact ⟨_, rfl, s.sampleAB_keepsCams axis a b⟩
  | pulseDirEdge axis a b => exact ⟨_, rfl, s.sampleAB_keepsCams axis a b⟩
  | upDownEdge axis a b => exact ⟨_, rfl, s.sampleAB_keepsCams axis a b⟩
  | risingZEdge axis z => exact ⟨_, rfl, s.sampleZ_keepsCams axis z⟩
  | timedPulseExpiry line => exact ⟨_, rfl, s.expire_keepsCams line⟩
  | sensorPinChange sensor level => exact ⟨_, rfl, s.sensorSample_keepsCams sensor level⟩
  | qualifiedChange sensor => exact ⟨_, rfl, s.qualifyPending_keepsCams sensor⟩
  | holdInChange level => exact ⟨_, rfl, State.withHoldIn_keepsCams _⟩
  | holdInQualify => exact ⟨_, rfl, s.holdInQualified_keepsCams⟩
  | startBit sample => exact ⟨_, rfl, s.busSample_keepsCams sample⟩
  | receiveFrame bytes =>
    refine ⟨_, rfl, ?_⟩
    split
    · exact s.frameEnd_keepsCams bytes
    · exact .refl s
  | frameEndByIdle =>
    refine ⟨_, rfl, ?_⟩
    split
    · exact s.idleEnd_keepsCams
    · exact .refl s
  | emptyBus => exact ⟨_, rfl, s.emptyBus_keepsCams⟩
  | waitExpiry => exact ⟨_, rfl, s.startFrame_keepsCams⟩
  | completion => exact ⟨_, rfl, s.complete_keepsCams⟩
  | abort mismatch => exact ⟨_, rfl, s.abortFrame_keepsCams mismatch⟩
  | resetNAsserted => exact ⟨_, rfl, s.cold_keepsCams⟩
  | _ => exact ⟨_, rfl, s.takeCommand_keepsCams ..⟩

theorem step_keepsCams {s t : State} (e : step s = .next t) : s.KeepsCams t := by
  unfold step at e
  split at e
  · cases e
    exact s.tick_keepsCams
  · rename_i c rest _
    have popped : s.KeepsCams { s with pending := rest } := .quiet rfl rfl rfl rfl rfl
    obtain ⟨u, eq, keeps⟩ := exec_keepsCams c { s with pending := rest }
    cases eq.symm.trans e
    exact popped.trans keeps

/-- Settles O57: a walk stays in its ring (`walkRing_pointer_lt`), and whatever changes an axis recomputes its windows
(`Works.Delivers`), in every row (`exec_keepsCams`). -/
theorem stepKeepsCams : Obligations.StepKeepsCams :=
  ⟨fun _ _ sound e => (step_keepsCams e).rings sound, fun _ _ sound e => (step_keepsCams e).windows sound⟩

end Sys2Proof.Machine
end

section
/-! Output lines (chapter 5): what each operation leaves of a line's condition and of what that condition lets it show (R87). -/

namespace Sys2Proof.Machine

/-! ### One line -/

section Line

variable {o : Output} {set : OutputSettings}

/-- An ACTION line in NORMAL may show any level and any pulse. -/
theorem Output.shows_of_action_normal (action : set.mode = .action) (normal : o.condition = .normal) : o.Shows set :=
  ⟨fun c => by simp [normal] at c, fun c => by simp [normal] at c, fun c => by simp [action] at c⟩

/-- A pulse runs on ACTION lines in NORMAL alone. -/
theorem Output.Shows.of_pulse (shows : o.Shows set) (running : o.pulse ≠ .idle) :
    set.mode = .action ∧ o.condition = .normal := by
  obtain ⟨released, forced, window⟩ := shows
  constructor
  · cases mode : set.mode with
    | action => rfl
    | window => exact absurd (window mode).1 running
  · cases condition : o.condition with
    | released => exact absurd (released condition).2 running
    | forced => exact absurd (forced condition).2 running
    | normal => rfl

/-- From `o` to `o'` a line stays under its condition, and shows what that allows if it did before. -/
structure Output.Keeps (o : Output) (set : OutputSettings) (o' : Output) : Prop where
  condition : o'.condition = o.condition
  shows : o.Shows set → o'.Shows set

theorem Output.Keeps.refl (o : Output) : o.Keeps set o := ⟨rfl, id⟩

theorem Output.Keeps.trans {o' o'' : Output} (a : o.Keeps set o') (b : o'.Keeps set o'') : o.Keeps set o'' :=
  ⟨b.condition.trans a.condition, b.shows ∘ a.shows⟩

/-- Whatever a running pulse makes of its line, the condition apart. -/
theorem Output.keeps_of_pulse {o' : Output} (condition : o'.condition = o.condition) (running : o.pulse ≠ .idle) :
    o.Keeps set o' :=
  ⟨condition, fun shows =>
    have ⟨action, normal⟩ := shows.of_pulse running
    Output.shows_of_action_normal action (condition.trans normal)⟩

/-- An operation sets level and pulse alone (R92 to R94). -/
theorem Output.take_frame (o : Output) (env : Env) (src : Option Handle) (op : Operation) :
    o.take env src op = { o with level := (o.take env src op).level, pulse := (o.take env src op).pulse } := by
  cases op with
  | set => rfl
  | clear => rfl
  | pulseTime w => rfl
  | pulseDist w =>
    cases src with
    | none => rfl
    | some h =>
      unfold Output.take
      dsimp only
      split <;> rfl

theorem Output.take_condition (o : Output) (env : Env) (src : Option Handle) (op : Operation) :
    (o.take env src op).condition = o.condition := by rw [o.take_frame env src op]

theorem Output.take_followed (o : Output) (env : Env) (src : Option Handle) (op : Operation) :
    (o.take env src op).followed = o.followed := by rw [o.take_frame env src op]

/-- A WINDOW line that takes a flag shows it in NORMAL alone (R99). -/
theorem Output.keeps_flag (window : set.mode = .window) (flag : Bool) :
    o.Keeps set { o with followed := flag, level := if o.condition = .normal then flag else o.level } := by
  have dark (other : o.condition ≠ .normal) : (if o.condition = .normal then flag else o.level) = o.level := if_neg other
  refine ⟨rfl, fun ⟨released, forced, windowed⟩ => ⟨fun c => ?_, fun c => ?_, fun _ => ⟨(windowed window).1, fun c => if_pos c⟩⟩⟩
  · exact ⟨(dark (by simp [show o.condition = _ from c])).trans (released c).1, (released c).2⟩
  · exact ⟨(dark (by simp [show o.condition = _ from c])).trans (forced c).1, (forced c).2⟩

/-- A TIMED pulse one period later (R93). -/
theorem Output.keeps_tick : o.Keeps set { o with pulse := o.pulse.tick } := by
  rw [Output.tick_eq]
  split
  · rename_i running
    exact Output.keeps_of_pulse rfl (by simp [running])
  · exact .refl o

theorem Output.enter_condition (c : Condition) : (o.enter set c).condition = c := by
  unfold Output.enter
  split
  · assumption
  · cases c <;> rfl

/-- A line that comes under a condition shows what that one allows (R88 to R90). -/
theorem Output.enter_shows (shows : o.Shows set) (c : Condition) : (o.enter set c).Shows set := by
  unfold Output.enter
  split
  · exact shows
  · cases c with
    | released => exact ⟨fun _ => ⟨rfl, rfl⟩, nofun, fun _ => ⟨rfl, nofun⟩⟩
    | forced => exact ⟨nofun, fun _ => ⟨rfl, rfl⟩, fun _ => ⟨rfl, nofun⟩⟩
    | normal => exact ⟨nofun, nofun, fun window => ⟨rfl, fun _ => by simp [window]⟩⟩

/-- A released line at level 0 without a pulse shows what any settings allow. -/
theorem Output.shows_of_released (released : o.condition = .released) (level : o.level = false) (pulse : o.pulse = .idle) :
    o.Shows set :=
  ⟨fun _ => ⟨level, pulse⟩, fun c => by simp [released] at c, fun _ => ⟨pulse, fun c => by simp [released] at c⟩⟩

end Line

/-! ### All lines -/

/-- From `w` to `t` every line stays under its condition and shows what that allows. -/
structure Works.KeepsLines (w : Works) (cfg : Settings) (t : Works) : Prop where
  line : ∀ q, (w.outputs.get q).Keeps (cfg.outputs.get q) (t.outputs.get q)

theorem Works.KeepsLines.of_eq {w t : Works} {cfg : Settings} (outputs : t.outputs = w.outputs) : w.KeepsLines cfg t :=
  ⟨fun _ => outputs ▸ .refl _⟩

theorem Works.KeepsLines.refl {cfg : Settings} (w : Works) : w.KeepsLines cfg w := .of_eq rfl

theorem Works.KeepsLines.trans {w t u : Works} {cfg : Settings} (a : w.KeepsLines cfg t) (b : t.KeepsLines cfg u) :
    w.KeepsLines cfg u := ⟨fun q => (a.line q).trans (b.line q)⟩

/-- The same, the later change first. -/
theorem Works.KeepsLines.after {w t u : Works} {cfg : Settings} (b : t.KeepsLines cfg u) (a : w.KeepsLines cfg t) :
    w.KeepsLines cfg u := a.trans b

theorem Works.KeepsLines.foldl {α : Type} {cfg : Settings} {f : Works → α → Works}
    (one : ∀ (w : Works) (x : α), w.KeepsLines cfg (f w x)) (l : List α) (w : Works) : w.KeepsLines cfg (l.foldl f w) :=
  foldl_frame f (Works.KeepsLines · cfg ·) .refl (fun _ _ _ a b => a.trans b) one l w

section Lines

variable (w : Works) (env : Env) (h : Handle) (m : Move)

/-- An action reaches ACTION lines in NORMAL alone (R91). -/
theorem Works.act_keepsLines (src : Option Handle) (a : Action) : w.KeepsLines env.cfg (w.act env src a) := by
  refine ⟨fun q => ?_⟩
  unfold Works.act
  dsimp only
  split
  · rename_i takes
    rw [Bank.get_put]
    split
    · rename_i e
      subst e
      have condition := (w.outputs.get a.line).take_condition env src a.operation
      exact ⟨condition, fun _ => Output.shows_of_action_normal takes.1 (condition.trans takes.2)⟩
    · exact .refl _
  · exact .refl _

theorem Works.actAll_keepsLines (src : Option Handle) (l : List Action) : w.KeepsLines env.cfg (w.actAll env src l) :=
  .foldl (fun w a => w.act_keepsLines env src a) l w

/-- Distance pulses that are released (R95, R96). -/
theorem Works.keepsLines_of_releasedOn {t : Works} {cfg : Settings} {ends : Pos → Bool}
    (outputs : t.outputs = releasedOn h ends w.outputs) : w.KeepsLines cfg t := by
  refine ⟨fun q => ?_⟩
  rw [outputs]
  simp only [releasedOn, Bank.get_tabulate]
  split
  · rename_i running
    split
    · exact Output.keeps_of_pulse rfl (by simp [running])
    · exact .refl _
  · exact .refl _

theorem Works.recompute_keepsLines (k : Fin 8) : w.KeepsLines env.cfg (w.recompute env k) := by
  refine ⟨fun q => ?_⟩
  rw [Works.recompute_outputs]
  split
  · rename_i follows
    exact Output.keeps_flag follows.1 _
  · exact .refl _

theorem Works.recomputeOn_keepsLines : w.KeepsLines env.cfg (w.recomputeOn env h) :=
  .foldl (fun w k => by
    split
    · exact w.recompute_keepsLines env k
    · exact .refl w) _ w

theorem Works.recomputeAll_keepsLines : w.KeepsLines env.cfg (w.recomputeAll env) :=
  .foldl (fun w k => w.recompute_keepsLines env k) _ w

theorem Works.expire_keepsLines {cfg : Settings} (q : Fin 8) : w.KeepsLines cfg (w.expire q) := by
  refine ⟨fun j => ?_⟩
  unfold Works.expire
  dsimp only
  split
  · rename_i running
    rw [Bank.get_put]
    split
    · rename_i e
      subst e
      exact Output.keeps_of_pulse rfl (by simp [running])
    · exact .refl _
  · exact .refl _

theorem Works.tick_keepsLines {cfg : Settings} (filters : Bool) : w.KeepsLines cfg (w.tick filters) := by
  refine ⟨fun q => ?_⟩
  rw [Works.tick, Bank.get_change]
  exact Output.keeps_tick

/-! ### The events a handle delivers -/

theorem Works.positionEvent_keepsLines : w.KeepsLines env.cfg (w.positionEvent env h m) := by
  have released : w.KeepsLines env.cfg (w.moved env h m) :=
    w.keepsLines_of_releasedOn h (congrArg Works.outputs (w.releaseCrossed_eq env h m))
  rw [Works.positionEvent_eq]
  exact released.trans ((Works.actAll_keepsLines ..).trans (Works.recomputeOn_keepsLines ..))

theorem Works.silentPassage_keepsLines : w.KeepsLines env.cfg (w.silentPassage env h m) := by
  rw [Works.silentPassage_eq]
  exact (Works.recomputeOn_keepsLines ..).after (w.keepsLines_of_releasedOn h rfl)

theorem Works.epochChange_keepsLines : w.KeepsLines env.cfg (w.epochChange env h) := by
  rw [Works.epochChange_eq]
  exact (Works.recomputeOn_keepsLines ..).after (w.keepsLines_of_releasedOn h rfl)

theorem Works.becomesActive_keepsLines : w.KeepsLines env.cfg (w.becomesActive env h) := by
  have queue : w.KeepsLines env.cfg (w.queueActive env h) := .of_eq (by rw [Works.queueActive, Works.removeMissed_eq])
  exact queue.trans (Works.recomputeOn_keepsLines ..)

theorem Works.stopsBeingActive_keepsLines : w.KeepsLines env.cfg (w.stopsBeingActive env h) := by
  rw [Works.stopsBeingActive_eq]
  exact (Works.recomputeOn_keepsLines ..).after (w.keepsLines_of_releasedOn h rfl)

/-! ### Offers and tags -/

theorem Works.lateFire_keepsLines (e : Entry) : w.KeepsLines env.cfg (w.lateFire env h e) := by
  refine ⟨fun q => ?_⟩
  rw [Works.lateFire_outputs]
  split
  · exact .refl _
  · split
    · exact (w.act_keepsLines env _ _).line q
    · exact .refl _

/-- Of what an offer can come to, a late fire alone reaches a line (R29). -/
theorem Works.offer_keepsLines (e : Entry) : w.KeepsLines env.cfg (w.offer env h e).2 := by
  unfold Works.offer
  dsimp only
  split_ifs with unusable epoch held ahead room late
  case pos => exact .of_eq rfl
  case pos => exact .of_eq rfl
  case pos => exact .of_eq rfl
  case pos => exact .of_eq rfl
  case neg => exact .of_eq rfl
  case pos => exact w.lateFire_keepsLines env h e
  case neg => exact .of_eq rfl

variable (t : Tag)

theorem Works.rulesTake_keepsLines (src : RuleSource) : w.KeepsLines env.cfg (w.rulesTake env h src t) :=
  .foldl (fun w k => by
    unfold Works.ruleTakes
    split
    · exact w.offer_keepsLines env h _
    · exact .refl w) _ w

theorem Works.remoteTag_keepsLines : w.KeepsLines env.cfg (w.remoteTag env t) := by
  unfold Works.remoteTag
  split
  · exact .of_eq rfl
  · split
    · exact .of_eq rfl
    · exact w.rulesTake_keepsLines env _ t _

theorem Works.publish_keepsLines (k : Fin 4) : w.KeepsLines env.cfg (w.publish env k t) := by
  unfold Works.publish
  split
  · have sends := w.offerTag_frame env t
    unfold SendingOnly at sends
    exact .of_eq (by rw [sends])
  · exact .refl w

/-- A local tag reaches no line but by its rules, whichever hand takes it first (R53). -/
theorem Works.localTag_keepsLines (k : Fin 4) : w.KeepsLines env.cfg (w.localTag env h k t) := by
  obtain ⟨c, e | e⟩ := w.localTag_cases env h k t
  · have drawn : w.KeepsLines env.cfg { w with choice := c } := .of_eq rfl
    exact e ▸ drawn.trans ((Works.rulesTake_keepsLines ..).trans (Works.publish_keepsLines ..))
  · have drawn : w.KeepsLines env.cfg { w with choice := c } := .of_eq rfl
    exact e ▸ drawn.trans ((Works.publish_keepsLines ..).trans (Works.rulesTake_keepsLines ..))

end Lines

end Sys2Proof.Machine
end

section
/-! What every step keeps of the output lines: each under the condition that R88 gives it, showing what that allows (R87). A part
of a step that may change the condition derives it anew at its end. -/

namespace Sys2Proof.Machine

/-! ### What the lines rest on -/

/-- Lines that show what their conditions allow, whether or not those are the ones that R88 gives now; LOADING is the time in which
the configuration status is PENDING (R187), and no frame is in flight in it (R130). -/
structure State.LinesShow (s : State) : Prop where
  loading : s.bus.station = .loading ↔ s.startup.status = .pending
  flight : s.bus.station = .loading → s.bus.flight = none
  lines : ∀ q, (s.works.outputs.get q).Shows (s.cfg.outputs.get q)

theorem State.LinesSound.shows {s : State} (sound : s.LinesSound) : s.LinesShow :=
  have ⟨loading, flight, lines⟩ := sound
  ⟨loading, flight, fun q => (lines q).2⟩

theorem State.LinesSound.condition {s : State} (sound : s.LinesSound) (q : Fin 8) :
    (s.works.outputs.get q).condition = s.lineCondition :=
  have ⟨_, _, lines⟩ := sound
  (lines q).1

theorem State.LinesShow.sound {s : State} (shows : s.LinesShow)
    (condition : ∀ q, (s.works.outputs.get q).condition = s.lineCondition) : s.LinesSound :=
  ⟨shows.loading, shows.flight, fun q => ⟨condition q, shows.lines q⟩⟩

/-- The condition of R88 rests on the configuration status, the station state and what R161 to R164 make the line state of. -/
theorem State.lineCondition_congr {s t : State} (startup : t.startup = s.startup) (cfg : t.cfg = s.cfg)
    (station : t.bus.station = s.bus.station) (number : t.bus.number = s.bus.number)
    (pin : t.holdIn.asserted = s.holdIn.asserted) (fault : t.axisFault = s.axisFault) (roster : t.roster = s.roster) :
    t.lineCondition = s.lineCondition := by
  have own : t.ownHold = s.ownHold := by
    rw [State.ownHold, State.ownHold, State.causePin, State.causePin, State.causeFault, State.causeFault, pin, cfg, fault]
  have peer : t.peerHold = s.peerHold := by rw [State.peerHold, State.peerHold, number, roster]
  have essential : t.essentialPresent = s.essentialPresent := by
    rw [State.essentialPresent, State.essentialPresent, cfg, roster]
  have run : t.run = s.run := by rw [State.run, State.run, station, own, peer, essential]
  rw [State.lineCondition_eq, State.lineCondition_eq, startup, run]

/-- A bus controller stays in its station state, under its number, and begins no frame in LOADING. -/
structure Bus.Stays (b b' : Bus) : Prop where
  station : b'.station = b.station
  number : b'.number = b.number
  flight : b.station = .loading → b.flight = none → b'.flight = none

theorem Bus.Stays.same {b b' : Bus} (station : b'.station = b.station) (number : b'.number = b.number)
    (flight : b'.flight = b.flight) : b.Stays b' := ⟨station, number, fun _ none => flight.trans none⟩

theorem Bus.Stays.refl (b : Bus) : b.Stays b := .same rfl rfl rfl

theorem Bus.Stays.trans {b b' b'' : Bus} (x : b.Stays b') (y : b'.Stays b'') : b.Stays b'' :=
  ⟨y.station.trans x.station, y.number.trans x.number, fun loading none =>
    y.flight (x.station.trans loading) (x.flight loading none)⟩

/-- Lines handed the condition of the station are under it. -/
theorem State.LinesShow.refreshLines {s : State} (shows : s.LinesShow) : s.refreshLines.LinesSound := by
  have line (q : Fin 8) : s.refreshLines.works.outputs.get q =
      (s.works.outputs.get q).enter (s.cfg.outputs.get q) s.lineCondition := by
    rw [State.refreshLines, State.withWorks_works, Works.enterCondition_outputs, Bank.get_change, State.env_cfg]
  refine ⟨shows.loading, shows.flight, fun q => ?_⟩
  rw [line]
  exact ⟨Output.enter_condition _, Output.enter_shows (shows.lines q) _⟩

/-! ### Parts of a step -/

/-- From `s` to `t` the configuration status stays, and lines that show what their conditions allow go on to. -/
structure State.KeepsShowing (s t : State) : Prop where
  startup : t.startup = s.startup
  shows : s.LinesShow → t.LinesShow

/-- And lines under the condition that R88 gives them are under it again. -/
structure State.KeepsLines (s t : State) : Prop extends s.KeepsShowing t where
  sound : s.LinesSound → t.LinesSound

section

variable {s t u : State}

theorem State.KeepsShowing.refl (s : State) : s.KeepsShowing s := ⟨rfl, id⟩

theorem State.KeepsShowing.trans (a : s.KeepsShowing t) (b : t.KeepsShowing u) : s.KeepsShowing u :=
  ⟨b.startup.trans a.startup, b.shows ∘ a.shows⟩

theorem State.KeepsShowing.foldl {α : Type} {f : State → α → State} (one : ∀ (s : State) (x : α), s.KeepsShowing (f s x))
    (l : List α) (s : State) : s.KeepsShowing (l.foldl f s) :=
  foldl_frame f State.KeepsShowing .refl (fun _ _ _ a b => a.trans b) one l s

theorem State.KeepsLines.refl (s : State) : s.KeepsLines s := ⟨.refl s, id⟩

theorem State.KeepsLines.trans (a : s.KeepsLines t) (b : t.KeepsLines u) : s.KeepsLines u :=
  ⟨a.toKeepsShowing.trans b.toKeepsShowing, b.sound ∘ a.sound⟩

/-- The same, the later part first. -/
theorem State.KeepsLines.after (b : t.KeepsLines u) (a : s.KeepsLines t) : s.KeepsLines u := a.trans b

theorem State.KeepsLines.foldl {α : Type} {f : State → α → State} (one : ∀ (s : State) (x : α), s.KeepsLines (f s x))
    (l : List α) (s : State) : s.KeepsLines (l.foldl f s) :=
  foldl_frame f State.KeepsLines .refl (fun _ _ _ a b => a.trans b) one l s

/-- A part that derives the condition anew at its end. -/
theorem State.KeepsShowing.refreshed (x : s.KeepsShowing t) : s.KeepsLines t.refreshLines :=
  ⟨⟨x.startup, fun shows => (x.shows shows).refreshLines.shows⟩, fun sound => (x.shows sound.shows).refreshLines⟩

/-- What may be taken for granted of a part that keeps the configuration status. -/
theorem State.KeepsLines.given (startup : t.startup = s.startup) (keeps : s.LinesShow → s.KeepsLines t) : s.KeepsLines t :=
  ⟨⟨startup, fun shows => (keeps shows).shows shows⟩, fun sound => (keeps sound.shows).sound sound⟩

/-- Neither the station state nor the settings change; lines may. -/
theorem State.KeepsShowing.quiet (startup : t.startup = s.startup) (cfg : t.cfg = s.cfg)
    (bus : s.bus.Stays t.bus) (lines : s.works.KeepsLines s.cfg t.works) : s.KeepsShowing t := by
  refine ⟨startup, fun shows => ⟨?_, fun loading => ?_, fun q => ?_⟩⟩
  · rw [bus.station, startup]
    exact shows.loading
  · rw [bus.station] at loading
    exact bus.flight loading (shows.flight loading)
  · rw [cfg]
    exact (lines.line q).shows (shows.lines q)

/-- Nor does the condition that R88 gives. -/
theorem State.KeepsLines.steady (x : s.KeepsShowing t) (condition : t.lineCondition = s.lineCondition)
    (lines : s.works.KeepsLines s.cfg t.works) : s.KeepsLines t :=
  ⟨x, fun sound => (x.shows sound.shows).sound fun q =>
    (lines.line q).condition.trans ((sound.condition q).trans condition.symm)⟩

/-- A station that is not in LOADING changes its state to another than that. -/
theorem State.KeepsShowing.beyond_loading (startup : t.startup = s.startup) (cfg : t.cfg = s.cfg)
    (loaded : s.startup.status ≠ .pending) (station : t.bus.station ≠ .loading)
    (outputs : t.works.outputs = s.works.outputs) : s.KeepsShowing t :=
  ⟨startup, fun shows => ⟨iff_of_false station (startup ▸ loaded), fun loading => absurd loading station, fun q => by
    rw [outputs, cfg]
    exact shows.lines q⟩⟩

theorem State.LinesShow.loaded (shows : s.LinesShow) (station : s.bus.station ≠ .loading) : s.startup.status ≠ .pending :=
  fun pending => station (shows.loading.mpr pending)

/-! ### Updates of the station -/

theorem State.withWorks_keepsLines {w : Works} (lines : s.works.KeepsLines s.cfg w) : s.KeepsLines (s.withWorks w) :=
  .steady (.quiet rfl rfl (.refl _) lines) rfl lines

/-- The lines stay, and so does all that their condition rests on. -/
theorem State.KeepsLines.still (startup : t.startup = s.startup) (cfg : t.cfg = s.cfg) (bus : t.bus = s.bus)
    (condition : t.lineCondition = s.lineCondition) (outputs : t.works.outputs = s.works.outputs) : s.KeepsLines t :=
  .steady (.quiet startup cfg (bus ▸ .refl _) (.of_eq outputs)) condition (.of_eq outputs)

theorem State.withBus_keepsLines {b : Bus} (bus : s.bus.Stays b) : s.KeepsLines (s.withBus b) :=
  .steady (.quiet rfl rfl bus (.refl _)) (State.lineCondition_congr rfl rfl bus.station bus.number rfl rfl rfl) (.refl _)

theorem State.withMirror_keepsLines (i : Fin 6) (m : Mirror) : s.KeepsLines (s.withMirror i m) := .still rfl rfl rfl rfl rfl

theorem State.withCommand_keepsLines (c : CommandUnit) : s.KeepsLines (s.withCommand c) := .still rfl rfl rfl rfl rfl

theorem State.withRule_keepsLines (k : Fin 8) (r : Rule) : s.KeepsLines (s.withRule k r) := .still rfl rfl rfl rfl rfl

theorem State.withSensor_keepsLines (k : Fin 4) (x : Sensor) : s.KeepsLines (s.withSensor k x) := .still rfl rfl rfl rfl rfl

theorem State.withRing_keepsLines (r : Fin 4) (x : Ring) : s.KeepsLines (s.withRing r x) := .still rfl rfl rfl rfl rfl

theorem State.raise_keepsLines (k : NoticeKind) : s.KeepsLines (s.raise k) := .still rfl rfl rfl rfl rfl

theorem State.draw_keepsLines (s : State) : s.KeepsLines (s.withWorks s.works.draw.2) := .still rfl rfl rfl rfl rfl

theorem State.withAxis_keepsShowing (i : Fin 2) (x : LocalAxis) : s.KeepsShowing (s.withAxis i x) :=
  .quiet rfl rfl (.refl _) (.refl _)

theorem State.withEntry_keepsShowing (n : Fin 32) (e : RosterEntry) : s.KeepsShowing (s.withEntry n e) :=
  .quiet rfl rfl (.refl _) (.refl _)

theorem State.withHoldIn_keepsShowing (x : HoldIn) : s.KeepsShowing (s.withHoldIn x) :=
  .quiet rfl rfl (.refl _) (.refl _)

/-- A local axis that keeps its state is no hold cause more or less (R162). -/
theorem State.withAxis_keepsLines {i : Fin 2} {x : LocalAxis} (state : x.state = (s.axes.get i).state) :
    s.KeepsLines (s.withAxis i x) := by
  have states (j : Fin 2) : ((s.withAxis i x).axes.get j).state = (s.axes.get j).state := by
    rw [State.withAxis_axes, Bank.get_put]
    split
    · rename_i e
      exact e ▸ state
    · rfl
  refine .still rfl rfl rfl (State.lineCondition_congr rfl rfl rfl rfl rfl ?_ rfl) rfl
  simp only [State.axisFault, states]

/-- A sample of the hold input leaves the hold cause PIN to its qualification (R161). -/
theorem State.withHoldIn_keepsLines {x : HoldIn} (asserted : x.asserted = s.holdIn.asserted) :
    s.KeepsLines (s.withHoldIn x) :=
  .still rfl rfl rfl (State.lineCondition_congr rfl rfl rfl rfl asserted rfl rfl) rfl

/-! ### What a handle delivers -/

theorem State.positionEvent_keepsLines (h : Handle) (m : Move) : s.KeepsLines (s.positionEvent h m) :=
  withWorks_keepsLines (s.works.positionEvent_keepsLines s.env h m)

theorem State.silentPassage_keepsLines (h : Handle) (m : Move) : s.KeepsLines (s.silentPassage h m) :=
  withWorks_keepsLines (s.works.silentPassage_keepsLines s.env h m)

theorem State.epochChange_keepsLines (h : Handle) : s.KeepsLines (s.epochChange h) :=
  withWorks_keepsLines (s.works.epochChange_keepsLines s.env h)

theorem State.becomesActive_keepsLines (h : Handle) : s.KeepsLines (s.becomesActive h) :=
  withWorks_keepsLines (s.works.becomesActive_keepsLines s.env h)

theorem State.stopsBeingActive_keepsLines (h : Handle) : s.KeepsLines (s.stopsBeingActive h) :=
  withWorks_keepsLines (s.works.stopsBeingActive_keepsLines s.env h)

theorem State.recomputeAll_keepsLines : s.KeepsLines (s.withWorks (s.works.recomputeAll s.env)) :=
  withWorks_keepsLines (s.works.recomputeAll_keepsLines s.env)

end

/-! ### Local axes -/

section LocalAxes

variable (s : State) (i : Fin 2)

theorem State.count_keepsLines (d : Direction) : s.KeepsLines (s.count i d) := by
  unfold State.count
  dsimp only
  split
  · exact (State.positionEvent_keepsLines _ _).after (State.withAxis_keepsLines rfl)
  · exact .refl s

/-- The fault may be a hold cause (R162): the lines take the condition that follows from it. -/
theorem State.encoderFault_keepsLines : s.KeepsLines (s.encoderFault i) :=
  ((State.withAxis_keepsShowing i _).trans ((State.raise_keepsLines _).trans
    (State.stopsBeingActive_keepsLines _)).toKeepsShowing).refreshed

/-- The fault that an origin event ends may have been one. -/
theorem State.originEvent_keepsLines (v : Pos) : s.KeepsLines (s.originEvent i v) :=
  ((State.withAxis_keepsShowing i _).trans (State.epochChange_keepsLines _).toKeepsShowing).refreshed

theorem State.quadSample_keepsLines (a b a' b' : Bool) : s.KeepsLines (s.quadSample i a b a' b') := by
  unfold State.quadSample
  split
  · exact .refl s
  · exact s.count_keepsLines i _
  · exact s.encoderFault_keepsLines i

theorem State.pulseDirSample_keepsLines (a a' b' : Bool) : s.KeepsLines (s.pulseDirSample i a a' b') := by
  unfold State.pulseDirSample
  split
  · exact s.count_keepsLines i _
  · exact .refl s

theorem State.upDownSample_keepsLines (a b a' b' : Bool) : s.KeepsLines (s.upDownSample i a b a' b') := by
  unfold State.upDownSample
  dsimp only
  split
  · refine (State.draw_keepsLines _).trans ?_
    split <;> exact (State.count_keepsLines _ i _).trans (State.count_keepsLines _ i _)
  · split
    · exact s.count_keepsLines i _
    · split
      · exact s.count_keepsLines i _
      · exact .refl s

theorem State.sampleAB_keepsLines (a b : Bool) : s.KeepsLines (s.sampleAB i a b) := by
  unfold State.sampleAB
  dsimp only
  refine (State.withAxis_keepsLines (s := s) (i := i) (x := { s.axes.get i with refA := a, refB := b }) rfl).trans ?_
  split
  · split
    · exact .refl _
    · exact State.quadSample_keepsLines _ i _ _ _ _
    · exact State.pulseDirSample_keepsLines _ i _ _ _
    · exact State.upDownSample_keepsLines _ i _ _ _ _
  · exact .refl _

theorem State.sampleZ_keepsLines (z : Bool) : s.KeepsLines (s.sampleZ i z) := by
  unfold State.sampleZ
  dsimp only
  refine (State.withAxis_keepsLines (s := s) (i := i) (x := { s.axes.get i with refZ := z }) rfl).trans ?_
  split
  · split
    · exact State.originEvent_keepsLines _ i _
    · exact .refl _
  · exact .refl _

end LocalAxes

/-! ### Mirrors -/

section Mirrors

variable (s : State)

theorem State.staleMirror_keepsLines (i : Fin 6) : s.KeepsLines (s.staleMirror i) := by
  unfold State.staleMirror
  dsimp only
  split
  · exact (State.withMirror_keepsLines _ _).trans ((State.raise_keepsLines _).trans (State.stopsBeingActive_keepsLines _))
  · exact .refl s

theorem State.stalePublished_keepsLines (n : Station) (keep : List (Fin 6)) : s.KeepsLines (s.stalePublished n keep) :=
  .foldl (fun s i => by
    split
    · exact s.staleMirror_keepsLines i
    · exact .refl s) _ s

/-- No mirror is a hold cause: a report (R105 to R110) reaches the lines by its events alone. -/
theorem State.applyReport_keepsLines (i : Fin 6) (r : AxisReport) : s.KeepsLines (s.applyReport i r) := by
  have becomes (m : Mirror) : s.KeepsLines (s.withMirror i m) := State.withMirror_keepsLines i m
  unfold State.applyReport
  dsimp only
  split
  · split
    · exact (becomes _).trans (State.stopsBeingActive_keepsLines _)
    · exact becomes _
  · split
    · exact (becomes _).trans (State.epochChange_keepsLines _)
    · refine (becomes ((s.mirrors.get i).takes r)).trans ?_
      split
      · exact State.becomesActive_keepsLines _
      · split
        · exact .refl _
        · split
          · exact State.positionEvent_keepsLines _ _
          · exact (State.raise_keepsLines _).trans (State.silentPassage_keepsLines _ _)
      · split
        · exact State.becomesActive_keepsLines _
        · exact (State.becomesActive_keepsLines _).trans (State.silentPassage_keepsLines _ _)

theorem State.restartMirror_keepsLines (i : Fin 6) : s.KeepsLines (s.restartMirror i) := by
  unfold State.restartMirror
  dsimp only
  refine (State.withMirror_keepsLines i Mirror.unseen).trans ?_
  split
  · exact State.stopsBeingActive_keepsLines _
  · exact .refl _

end Mirrors

/-! ### Sensors and the hold input -/

section Sensors

variable (s : State) (k : Fin 4)

theorem State.makeTag_keepsLines (h : Handle) (id : BitVec 6) : s.KeepsLines (s.makeTag k h id) := by
  have tagged := s.works.localTag_keepsLines s.env h (s.capturedTag k h id) k
  have lines : s.works.KeepsLines s.cfg (s.makeTag k h id).works := tagged.trans (.of_eq (by rw [State.makeTag_eq]))
  rw [State.makeTag_eq] at lines ⊢
  exact .steady (.quiet rfl rfl (.refl _) lines) rfl lines

theorem State.capture_keepsLines : s.KeepsLines (s.capture k) := by
  unfold State.capture
  split
  · exact .refl s
  · split
    · split
      · exact s.makeTag_keepsLines k _ _
      · exact .refl s
    · exact State.raise_keepsLines _

theorem State.sensorEdge_keepsLines (level : Bool) : s.KeepsLines (s.sensorEdge k level) := by
  unfold State.sensorEdge
  split
  · exact s.capture_keepsLines k
  · exact .refl s

theorem State.qualify_keepsLines : s.KeepsLines (s.qualify k) :=
  (State.withSensor_keepsLines _ _).trans (State.sensorEdge_keepsLines _ k _)

theorem State.sensorSample_keepsLines (level : Bool) : s.KeepsLines (s.sensorSample k level) := by
  unfold State.sensorSample
  dsimp only
  split
  · exact State.withSensor_keepsLines _ _
  · split
    · exact State.withSensor_keepsLines _ _
    · split
      · exact (State.withSensor_keepsLines _ _).trans (State.qualify_keepsLines _ k)
      · split <;> exact State.withSensor_keepsLines _ _

theorem State.qualifyPending_keepsLines : s.KeepsLines (s.qualifyPending k) := by
  unfold State.qualifyPending
  split
  · exact s.qualify_keepsLines k
  · exact .refl s

theorem HoldIn.sample_asserted (x : HoldIn) (held level : Bool) : (x.sample held level).asserted = x.asserted := by
  unfold HoldIn.sample
  split_ifs <;> rfl

/-- A qualified change of HOLD_IN_N changes the hold cause PIN (R161): the lines take the condition that follows. -/
theorem State.holdInQualified_keepsLines : s.KeepsLines s.holdInQualified := by
  unfold State.holdInQualified
  split
  · exact (State.withHoldIn_keepsShowing _).refreshed
  · exact .refl s

end Sensors

/-! ### Console commands -/

section Commands

variable (s : State)

theorem State.trimCam_keepsLines (ring entry : Byte) (position : BitVec 32) :
    s.KeepsLines (s.trimCam ring entry position).state := by
  unfold State.trimCam
  split
  · exact .refl s
  · split
    · exact .refl s
    · dsimp only
      split
      · exact State.withRing_keepsLines _ _
      · exact .refl s

theorem State.armRing_keepsLines (index arm start : Byte) : s.KeepsLines (s.armRing index arm start).state := by
  unfold State.armRing
  split
  · dsimp only
    split
    · split
      · split
        · exact State.withRing_keepsLines _ _
        · exact .refl s
      · exact State.withRing_keepsLines _ _
    · exact .refl s
  · exact .refl s

/-- A window whose bounds are set hands its flag (R82). -/
theorem State.trimWindow_keepsLines (window : Byte) (lower upper : BitVec 32) :
    s.KeepsLines (s.trimWindow window lower upper).state := by
  have bounded (k : Fin 8) : s.works.KeepsLines s.cfg ((s.works.bounded k lower upper).recompute s.env k) :=
    (Works.recompute_keepsLines _ s.env k).after (.of_eq rfl)
  unfold State.trimWindow
  split
  · exact .refl s
  · split
    · exact .refl s
    · dsimp only
      split
      · exact State.withWorks_keepsLines (bounded _)
      · exact .refl s

theorem State.trimRule_keepsLines (rule : Byte) (offset : BitVec 32) : s.KeepsLines (s.trimRule rule offset).state := by
  unfold State.trimRule
  split
  · exact .refl s
  · split
    · exact State.withRule_keepsLines _ _
    · exact .refl s

theorem State.armRule_keepsLines (index arm : Byte) : s.KeepsLines (s.armRule index arm).state := by
  unfold State.armRule
  split
  · exact State.withRule_keepsLines _ _
  · exact .refl s

theorem State.onLocalAxis_keepsLines {handle : Byte} {f : Fin 2 → Answer} (effect : ∀ i, s.KeepsLines (f i).state) :
    s.KeepsLines (s.onLocalAxis handle f).state := by
  unfold State.onLocalAxis
  split
  · exact .refl s
  · split
    · exact .refl s
    · exact effect _

theorem State.setOrigin_keepsLines (handle : Byte) (value : BitVec 32) : s.KeepsLines (s.setOrigin handle value).state :=
  s.onLocalAxis_keepsLines fun i => by
    split
    · exact s.originEvent_keepsLines i value
    · exact .refl s

theorem State.armIndex_keepsLines (handle : Byte) (value : BitVec 32) : s.KeepsLines (s.armIndex handle value).state :=
  s.onLocalAxis_keepsLines fun i => by
    split
    · exact State.withAxis_keepsLines rfl
    · exact .refl s

theorem State.injectEntry_keepsLines (requester : Station) (handle : Byte) (due : BitVec 32) (sequence : BitVec 16)
    (tagClass : BitVec 4) (forward : Bool) (action : Option Action) :
    s.KeepsLines (s.injectEntry requester handle due sequence tagClass forward action).state := by
  unfold State.injectEntry
  split
  · exact .refl s
  · split
    · exact State.withWorks_keepsLines (s.works.offer_keepsLines s.env _ _)
    · exact .refl s

theorem State.clearQueue_keepsLines (handle : Byte) : s.KeepsLines (s.clearQueue handle).state := by
  unfold State.clearQueue
  split
  · exact State.withWorks_keepsLines (.of_eq rfl)
  · split
    · exact .refl s
    · exact State.withWorks_keepsLines (.of_eq rfl)

theorem State.pulseOutput_keepsLines (line : Byte) (width : BitVec 16) : s.KeepsLines (s.pulseOutput line width).state := by
  unfold State.pulseOutput
  split
  · exact .refl s
  · split
    · exact .refl s
    · split
      · exact .refl s
      · exact State.withWorks_keepsLines (s.works.act_keepsLines s.env none _)

theorem State.perform_keepsLines (requester : Station) (c : Cmd) : s.KeepsLines (s.perform requester c).state := by
  cases c with
  | readStatus page handle => exact (s.readStatus_state page handle).symm ▸ .refl s
  | readQueue handle index => exact (s.readQueue_state handle index).symm ▸ .refl s
  | trimCam ring entry position => exact s.trimCam_keepsLines ring entry position
  | trimRule rule offset => exact s.trimRule_keepsLines rule offset
  | trimWindow window lower upper => exact s.trimWindow_keepsLines window lower upper
  | armRule index arm start => exact s.armRule_keepsLines index arm
  | armRing index arm start => exact s.armRing_keepsLines index arm start
  | setOrigin handle value => exact s.setOrigin_keepsLines handle value
  | armIndex handle value => exact s.armIndex_keepsLines handle value
  | armIndexCancel handle => exact s.onLocalAxis_keepsLines fun _ => State.withAxis_keepsLines rfl
  | injectEntry handle due sequence tagClass forward action =>
    exact s.injectEntry_keepsLines requester handle due sequence tagClass forward action
  | clearQueue handle => exact s.clearQueue_keepsLines handle
  | clearCounts => exact State.withWorks_keepsLines (.of_eq rfl)
  | pulseOutput line width => exact s.pulseOutput_keepsLines line width
  | restart => exact State.withCommand_keepsLines _
  | unfit code => exact .refl s
  | unknown code => exact .refl s

theorem State.execute_keepsLines (requester : Station) (c : Cmd) : s.KeepsLines (s.execute requester c).state := by
  unfold State.execute
  split
  · exact .refl s
  · split
    · exact .refl s
    · split
      · exact .refl s
      · exact s.perform_keepsLines requester c

theorem Answer.deliver_keepsLines (a : Answer) (requester : Station) (tid : Byte) (c : Cmd) :
    a.state.KeepsLines (a.deliver requester tid c) := by
  rw [Answer.deliver_eq]
  split <;> exact .still rfl rfl rfl rfl rfl

theorem State.takeCommand_keepsLines (requester : Station) (tid : Byte) (c : Cmd) :
    s.KeepsLines (s.takeCommand requester tid c) := by
  unfold State.takeCommand
  split
  · exact .refl s
  · split
    · exact State.raise_keepsLines _
    · split
      · exact State.withWorks_keepsLines (.of_eq rfl)
      · exact (s.execute_keepsLines requester c).trans (Answer.deliver_keepsLines ..)

end Commands

/-! ### The roster and the items of a frame -/

section Frames

variable (s : State)

/-- A miss may change the line state, which the frame that reveals it derives anew (R157, R158). -/
theorem State.miss_keepsShowing (j : Station) : s.KeepsShowing (s.miss j) := by
  have enters (e : RosterEntry) : s.KeepsShowing (s.withEntry (stationIndex j) e) := State.withEntry_keepsShowing _ e
  unfold State.miss
  dsimp only
  split
  · split
    · exact (enters _).trans (State.stalePublished_keepsLines _ _ _).toKeepsShowing
    · exact ((enters _).trans ((State.raise_keepsLines _).trans
        (State.stalePublished_keepsLines _ _ _)).toKeepsShowing).refreshed.toKeepsShowing
  · exact .refl s

theorem State.countMisses_keepsShowing (a : Option Station) (k : Station) : s.KeepsShowing (s.countMisses a k) := by
  unfold State.countMisses
  split
  · exact .refl s
  · refine State.KeepsShowing.foldl (fun s d => ?_) _ s
    dsimp only
    split
    · exact s.miss_keepsShowing _
    · exact .refl s

theorem State.applyHeader_keepsLines (a : Option Station) (source : Station) (hold : Bool) :
    s.KeepsLines (s.applyHeader a source hold) :=
  ((s.countMisses_keepsShowing a source).trans (State.withEntry_keepsShowing _ _)).refreshed

theorem State.completeRoster_keepsLines (a : Option Station) (f : Flight) : s.KeepsLines (s.completeRoster a f) :=
  ((State.withEntry_keepsShowing _ _).trans (State.countMisses_keepsShowing _ _ _)).refreshed

theorem State.applyAxisItem_keepsLines (source : Station) (r : AxisReport) : s.KeepsLines (s.applyAxisItem source r).2 := by
  unfold State.applyAxisItem
  split
  · exact .refl s
  · split
    · exact State.raise_keepsLines _
    · split
      · exact .refl s
      · dsimp only
        split
        · exact State.raise_keepsLines _
        · split
          · exact State.raise_keepsLines _
          · exact s.applyReport_keepsLines _ r

theorem State.applyItem_keepsLines (source : Station) (taken : List (Fin 6)) (i : Item) :
    s.KeepsLines (s.applyItem source taken i).2 := by
  unfold State.applyItem
  split
  · split
    · exact State.raise_keepsLines _
    · exact s.applyAxisItem_keepsLines source _
  · split
    · exact State.raise_keepsLines _
    · split
      · exact State.withWorks_keepsLines (s.works.remoteTag_keepsLines s.env _)
      · exact .refl s
  · split
    · exact State.raise_keepsLines _
    · split
      · exact s.takeCommand_keepsLines source _ _
      · exact .refl s
  · exact .refl s

theorem State.applyItems_keepsLines (source : Station) (taken : List (Fin 6)) (l : List Item) :
    s.KeepsLines (s.applyItems source taken l).2 := by
  induction l generalizing s taken with
  | nil => exact .refl s
  | cons i rest ih => exact (s.applyItem_keepsLines source taken i).trans (ih _ _)

theorem State.applyBody_keepsLines (f : Frame) : s.KeepsLines (s.applyBody f) :=
  (s.applyItems_keepsLines _ _ _).trans (State.stalePublished_keepsLines _ _ _)

end Frames

/-! ### The bus -/

section BusControl

variable (s : State)

/-- A station joins, from a state other than LOADING (R132). -/
theorem State.join_keepsLines (loaded : s.startup.status ≠ .pending) : s.KeepsLines s.join := by
  unfold State.join
  exact State.KeepsShowing.refreshed (.beyond_loading rfl rfl loaded nofun rfl)

/-- It locks itself out, from a state other than LOADING (R134). -/
theorem State.lockOut_keepsLines (loaded : s.startup.status ≠ .pending) : s.KeepsLines s.lockOut := by
  unfold State.lockOut
  exact State.KeepsShowing.refreshed (.beyond_loading rfl rfl loaded nofun rfl)

theorem Bus.frameEnded_stays (b : Bus) (anchor : Option Station) (idle : Nat) : b.Stays (b.frameEnded anchor idle) :=
  .same rfl rfl rfl

theorem Bus.record_stays (b : Bus) (source : Station) : b.Stays (b.record source) := by
  unfold Bus.record
  split
  · exact .same rfl rfl rfl
  · exact .refl b

theorem Bus.startBit_stays (b : Bus) (idle : Nat) (stop : Bool) : b.Stays (b.startBit idle stop) := .same rfl rfl rfl

theorem Bus.abandon_stays (b : Bus) (x : Mismatch) : b.Stays (b.abandon x) := by
  unfold Bus.abandon
  dsimp only
  split <;> exact ⟨rfl, rfl, fun _ _ => rfl⟩

theorem Bus.tick_stays (b : Bus) : b.Stays b.tick := by
  unfold Bus.tick
  split_ifs <;> exact .same rfl rfl rfl

theorem State.unjudgedFrame_keepsLines (idle : Nat) : s.KeepsLines (s.unjudgedFrame idle) :=
  State.withBus_keepsLines (Bus.frameEnded_stays ..)

theorem State.busSample_keepsLines (x : BusSample) : s.KeepsLines (s.busSample x) := by
  unfold State.busSample
  split
  · split
    · exact State.withBus_keepsLines (Bus.startBit_stays ..)
    · exact .refl s
  · exact .refl s
  · split
    · exact State.withBus_keepsLines (Bus.startBit_stays ..)
    · exact State.withBus_keepsLines (.same rfl rfl rfl)

theorem State.corruptFrame_keepsLines (idle : Nat) : s.KeepsLines (s.corruptFrame idle) :=
  (State.raise_keepsLines .badFrame).trans (State.withBus_keepsLines (s.bus.frameEnded_stays none idle))

theorem State.ownNumberFrame_keepsLines (loaded : s.startup.status ≠ .pending) : s.KeepsLines s.ownNumberFrame := by
  unfold State.ownNumberFrame
  dsimp only
  refine (State.withBus_keepsLines (s.bus.frameEnded_stays (some s.bus.number) 0)).trans ?_
  split
  · exact .refl _
  · exact State.lockOut_keepsLines _ loaded

theorem State.acceptFrame_keepsLines (loaded : s.startup.status ≠ .pending) (f : Frame) : s.KeepsLines (s.acceptFrame f) := by
  unfold State.acceptFrame
  dsimp only
  have heard : s.KeepsLines ((s.withWorks (s.works.count framesReceived)).applyHeader s.bus.anchor f.source f.hold) :=
    (State.applyHeader_keepsLines _ _ _ _).after (State.withWorks_keepsLines (.of_eq rfl))
  generalize (s.withWorks (s.works.count framesReceived)).applyHeader s.bus.anchor f.source f.hold = t at heard ⊢
  have ended : s.KeepsLines (t.withBus ((t.bus.frameEnded (some f.source) 0).record f.source)) :=
    heard.trans (State.withBus_keepsLines ((Bus.frameEnded_stays ..).trans (Bus.record_stays ..)))
  generalize t.withBus ((t.bus.frameEnded (some f.source) 0).record f.source) = u at ended ⊢
  have still {v : State} (keeps : s.KeepsLines v) : v.startup.status ≠ .pending := keeps.startup ▸ loaded
  split
  · split
    · have applied := ended.trans (u.applyBody_keepsLines f)
      exact applied.trans (State.join_keepsLines _ (still applied))
    · have drawn := ended.trans u.draw_keepsLines
      split
      · have applied := drawn.trans (State.applyBody_keepsLines _ f)
        exact applied.trans (State.join_keepsLines _ (still applied))
      · exact drawn.trans ((State.join_keepsLines _ (still drawn)).trans (State.applyBody_keepsLines _ f))
  · exact ended.trans (u.applyBody_keepsLines f)

theorem State.judgeFrame_keepsLines (loaded : s.startup.status ≠ .pending) (bytes : List Byte) :
    s.KeepsLines (s.judgeFrame bytes) := by
  unfold State.judgeFrame
  split
  · exact s.corruptFrame_keepsLines 0
  · split
    · exact s.ownNumberFrame_keepsLines loaded
    · exact s.acceptFrame_keepsLines loaded _

theorem State.frameEnd_keepsLines (loaded : s.startup.status ≠ .pending) (bytes : List Byte) :
    s.KeepsLines (s.frameEnd bytes) := by
  unfold State.frameEnd
  split
  · exact s.unjudgedFrame_keepsLines 0
  · exact s.unjudgedFrame_keepsLines 0
  · exact s.corruptFrame_keepsLines 0
  · dsimp only
    split
    · exact s.judgeFrame_keepsLines loaded _
    · exact (s.judgeFrame_keepsLines loaded _).trans (State.withBus_keepsLines (.same rfl rfl rfl))

theorem State.idleEnd_keepsLines : s.KeepsLines s.idleEnd := by
  unfold State.idleEnd
  dsimp only
  split
  · exact s.unjudgedFrame_keepsLines _
  · exact s.unjudgedFrame_keepsLines _
  · exact s.corruptFrame_keepsLines _

/-- A station that joins on an empty bus is LISTENING (R132). -/
theorem State.emptyBus_keepsLines : s.KeepsLines s.emptyBus := by
  refine .given (by unfold State.emptyBus; split <;> rfl) fun shows => ?_
  unfold State.emptyBus
  split
  · rename_i listens
    have loaded := shows.loaded (by rw [listens.2.1]; decide)
    have counted : s.KeepsLines (s.withBus { s.bus with idle := max s.bus.idle (emptyBusBits * bitClocks s.bus.rate) }) :=
      State.withBus_keepsLines (.same rfl rfl rfl)
    exact counted.trans (State.join_keepsLines _ loaded)
  · exact .refl s

/-- A station that begins a frame is ROTATING (R125). -/
theorem State.startFrame_keepsLines : s.KeepsLines s.startFrame := by
  unfold State.startFrame
  split
  · rename_i starts
    exact State.withBus_keepsLines ⟨rfl, rfl, fun loading => absurd (starts.1.symm.trans loading) (by decide)⟩
  · exact .refl s

theorem State.completeFrame_keepsLines (f : Flight) : s.KeepsLines (s.completeFrame f) := by
  unfold State.completeFrame
  dsimp only
  let ended : Bus := { s.bus.frameEnded (some s.bus.number) 0 with flight := none, rxd := true }
  have freed : s.KeepsLines ((s.withBus ended).withWorks (s.works.completeItems f)) :=
    .trans (t := s.withBus ended) (State.withBus_keepsLines ⟨rfl, rfl, fun _ _ => rfl⟩) (State.withWorks_keepsLines (.of_eq rfl))
  refine freed.trans ?_
  split
  · exact (State.completeRoster_keepsLines _ _ f).after (State.withWorks_keepsLines (.of_eq rfl))
  · split
    · exact (State.completeRoster_keepsLines _ _ f).after (State.withWorks_keepsLines (.of_eq rfl))
    · exact (State.draw_keepsLines _).trans ((State.completeRoster_keepsLines _ _ f).trans
        (State.withWorks_keepsLines (.of_eq rfl)))

/-- The station that restarts is not in LOADING (R184). -/
theorem State.warmRestart_keepsLines (loaded : s.startup.status ≠ .pending) : s.KeepsLines s.warmRestart := by
  unfold State.warmRestart
  dsimp only
  refine State.recomputeAll_keepsLines.after (State.KeepsShowing.refreshed ?_)
  refine State.KeepsShowing.trans ?_ (State.KeepsLines.foldl (fun s i => s.restartMirror_keepsLines i) _ _).toKeepsShowing
  exact .beyond_loading rfl rfl loaded nofun rfl

/-- A station with a frame in flight is not in LOADING (R130). -/
theorem State.complete_linesSound (sound : s.LinesSound) : s.complete.LinesSound := by
  unfold State.complete
  split
  · exact sound
  · rename_i f flight
    have loaded : s.startup.status ≠ .pending :=
      sound.shows.loaded fun loading => by simp [sound.shows.flight loading] at flight
    have completes := s.completeFrame_keepsLines f
    split
    · exact (completes.trans (State.warmRestart_keepsLines _ (completes.startup ▸ loaded))).sound sound
    · exact completes.sound sound

theorem State.abortFrame_keepsLines (x : Mismatch) : s.KeepsLines (s.abortFrame x) := by
  unfold State.abortFrame
  split
  · exact .refl s
  · exact (State.raise_keepsLines .collision).trans (State.withBus_keepsLines (s.bus.abandon_stays x))

end BusControl

/-! ### Start-up -/

section StartUp

variable {s t : State}

/-- The condition of R88 is RELEASED while the configuration is not valid. -/
theorem State.lineCondition_invalid (invalid : s.startup.status ≠ .valid) : s.lineCondition = .released := by
  rw [State.lineCondition_eq, if_pos invalid]

/-- A station in LOADING has its lines released (R88). -/
theorem State.LinesSound.released (sound : s.LinesSound) (loading : s.bus.station = .loading) (q : Fin 8) :
    (s.works.outputs.get q).condition = .released :=
  (sound.condition q).trans (State.lineCondition_invalid (by rw [sound.shows.loading.mp loading]; decide))

/-- At the end of LOADING the lines, released until now, show what any settings allow. -/
theorem State.LinesSound.loads (sound : s.LinesSound) (loading : s.bus.station = .loading)
    (station : t.bus.station ≠ .loading) (loaded : t.startup.status ≠ .pending)
    (outputs : t.works.outputs = s.works.outputs) : t.LinesShow := by
  refine ⟨iff_of_false station loaded, fun loading => absurd loading station, fun q => ?_⟩
  rw [outputs]
  have released := sound.released loading q
  have ⟨level, pulse⟩ := (sound.shows.lines q).1 released
  exact Output.shows_of_released released level pulse

/-- Every line is released at a cold reset (R88, R101). -/
theorem State.linesSound_of_cold (loading : t.bus.station = .loading) (pending : t.startup.status = .pending)
    (flight : t.bus.flight = none) (outputs : t.works.outputs = Bank.fill Output.released) : t.LinesSound := by
  refine ⟨iff_of_true loading pending, fun _ => flight, fun q => ?_⟩
  rw [outputs, Bank.get_fill]
  exact ⟨(State.lineCondition_invalid (by rw [pending]; decide)).symm, Output.shows_of_released rfl rfl rfl⟩

theorem State.cold_linesSound (s : State) : s.cold.LinesSound := State.linesSound_of_cold rfl rfl rfl rfl

theorem State.coldReset_linesSound (s : State) (number : Station) (rate : BitVec 2) : (s.coldReset number rate).LinesSound :=
  State.linesSound_of_cold rfl rfl rfl rfl

theorem State.degrade_linesSound (sound : s.LinesSound) (loading : s.bus.station = .loading) (check : Nat) :
    (s.degrade check).LinesSound :=
  (State.LinesSound.loads (t := s.degrade check) sound loading nofun nofun rfl).sound fun q =>
    (sound.released loading q).trans (State.lineCondition_invalid (s := s.degrade check) nofun).symm

theorem State.configure_linesSound (sound : s.LinesSound) (loading : s.bus.station = .loading) (c : Settings) :
    (s.configure c).LinesSound := by
  unfold State.configure
  dsimp only
  exact State.recomputeAll_keepsLines.sound (State.LinesShow.refreshLines (sound.loads loading nofun nofun rfl))

theorem State.judgePass_linesSound (sound : s.LinesSound) (loading : s.bus.station = .loading) (memory : List Byte)
    (miso : Bool) : (s.judgePass memory miso).LinesSound := by
  unfold State.judgePass
  split
  · split
    · exact sound
    · exact State.degrade_linesSound sound loading 1
  · dsimp only
    split
    · exact State.degrade_linesSound sound loading _
    · exact State.configure_linesSound sound loading _

end StartUp

/-! ### The clock -/

section Clock

variable (s : State)

theorem State.advanceClock_keepsLines : s.KeepsLines s.advanceClock := by
  have bus : s.bus.Stays s.advanceClock.bus := by
    unfold State.advanceClock
    dsimp only
    split
    · exact s.bus.tick_stays
    · exact .refl _
  have lines : s.works.KeepsLines s.cfg s.advanceClock.works := Works.tick_keepsLines _ _
  exact .steady (.quiet rfl rfl bus lines) (State.lineCondition_congr rfl rfl bus.station bus.number rfl rfl rfl) lines

theorem State.sound_keepsLines (a : Alarm) : s.KeepsLines (s.sound a) := by
  cases a with
  | pulse q => exact State.withWorks_keepsLines (Works.expire_keepsLines _ q)
  | sensor k => exact s.qualifyPending_keepsLines k
  | holdIn => exact s.holdInQualified_keepsLines
  | frameEnd => exact s.idleEnd_keepsLines
  | emptyBus => exact s.emptyBus_keepsLines
  | wait => exact s.startFrame_keepsLines

theorem State.soundAll_keepsLines (l : List Alarm) : s.KeepsLines (s.soundAll l) :=
  .foldl (fun s a => by
    split
    · exact s.sound_keepsLines a
    · exact .refl s) l s

theorem State.tick_keepsLines : s.KeepsLines s.tick := by
  unfold State.tick
  split
  · exact .refl s
  · exact s.advanceClock_keepsLines.trans ((State.withWorks_keepsLines (.of_eq (by rw [Works.arrange_works]))).trans
      (State.soundAll_keepsLines _ _))

end Clock

/-! ### The rows -/

/-- A station that hears is not in LOADING (R130). -/
theorem State.LinesSound.hears {s : State} (sound : s.LinesSound) (hears : s.hears = true) : s.startup.status ≠ .pending := by
  refine sound.shows.loaded fun loading => ?_
  simp [State.hears, State.receives, loading] at hears

/-- Whatever row brought it, a command leaves the lines sound. -/
theorem exec_linesSound (i : Instr) {s : State} (sound : s.LinesSound) : ∃ t, exec i s = .next t ∧ t.LinesSound := by
  cases i with
  | coldReset number rate => exact ⟨_, rfl, s.coldReset_linesSound number rate⟩
  | readPass memory miso =>
    refine ⟨_, rfl, ?_⟩
    split
    · rename_i reads
      exact State.judgePass_linesSound sound reads.2 memory miso
    · exact sound
  | quad4Edge axis a b => exact ⟨_, rfl, (s.sampleAB_keepsLines axis a b).sound sound⟩
  | pulseDirEdge axis a b => exact ⟨_, rfl, (s.sampleAB_keepsLines axis a b).sound sound⟩
  | upDownEdge axis a b => exact ⟨_, rfl, (s.sampleAB_keepsLines axis a b).sound sound⟩
  | risingZEdge axis z => exact ⟨_, rfl, (s.sampleZ_keepsLines axis z).sound sound⟩
  | timedPulseExpiry line => exact ⟨_, rfl, (State.withWorks_keepsLines (Works.expire_keepsLines _ line)).sound sound⟩
  | sensorPinChange sensor level => exact ⟨_, rfl, (s.sensorSample_keepsLines sensor level).sound sound⟩
  | qualifiedChange sensor => exact ⟨_, rfl, (s.qualifyPending_keepsLines sensor).sound sound⟩
  | holdInChange level => exact ⟨_, rfl, (State.withHoldIn_keepsLines (HoldIn.sample_asserted ..)).sound sound⟩
  | holdInQualify => exact ⟨_, rfl, s.holdInQualified_keepsLines.sound sound⟩
  | startBit sample => exact ⟨_, rfl, (s.busSample_keepsLines sample).sound sound⟩
  | receiveFrame bytes =>
    refine ⟨_, rfl, ?_⟩
    split
    · rename_i hears
      exact (s.frameEnd_keepsLines (sound.hears hears) bytes).sound sound
    · exact sound
  | frameEndByIdle =>
    refine ⟨_, rfl, ?_⟩
    split
    · exact s.idleEnd_keepsLines.sound sound
    · exact sound
  | emptyBus => exact ⟨_, rfl, s.emptyBus_keepsLines.sound sound⟩
  | waitExpiry => exact ⟨_, rfl, s.startFrame_keepsLines.sound sound⟩
  | completion => exact ⟨_, rfl, s.complete_linesSound sound⟩
  | abort mismatch => exact ⟨_, rfl, (s.abortFrame_keepsLines mismatch).sound sound⟩
  | resetNAsserted => exact ⟨_, rfl, s.cold_linesSound⟩
  | _ => exact ⟨_, rfl, (s.takeCommand_keepsLines ..).sound sound⟩

/-- Settles O58: every part of a step leaves each line what its condition allows (`State.KeepsShowing`), and the parts that may
change the condition hand it to the lines anew (`State.KeepsShowing.refreshed`), in every row (`exec_linesSound`). -/
theorem stepKeepsLines : Obligations.StepKeepsLines := by
  intro s t sound e
  unfold step at e
  split at e
  · cases e
    exact s.tick_keepsLines.sound sound
  · rename_i c rest _
    have popped : s.KeepsLines { s with pending := rest } := .still rfl rfl rfl rfl rfl
    obtain ⟨u, eq, kept⟩ := exec_linesSound c (popped.sound sound)
    cases eq.symm.trans e
    exact kept

end Sys2Proof.Machine
end

section
/-! The statements about single lines (chapter 5): the actions that reach one (R91 to R94), the pins (R87, R100), and
PULSE_OUTPUT (R98). -/

namespace Sys2Proof.Machine

/-! ### Positions ahead by a width (R94) -/

theorem advance_track {g : Geometry} (track : g.kind = .track) (p : Pos) (width : BitVec 16) :
    (advance g p width.toNat).toNat = (p.toNat + width.toNat) % 4294967296 := by
  simp [advance, track]

/-- The sum modulo M, at most 2^24, is a position as it stands. -/
theorem advance_ring {g : Geometry} (ring : g.kind = .ring) (below : g.modulus ≤ 16777216) (one : 1 ≤ g.modulus) (p : Pos)
    (width : BitVec 16) : (advance g p width.toNat).toNat = (p.toNat + width.toNat) % g.modulus := by
  have inside := Nat.mod_lt (p.toNat + width.toNat) one
  simp only [advance, ring, BitVec.toNat_ofNat]
  omega

/-! ### Actions (R91 to R94) -/

section Actions

variable {w : Works} {env : Env} {src : Option Handle} {a : Action}

theorem Works.act_taken
    (takes : (env.cfg.outputs.get a.line).mode = .action ∧ (w.outputs.get a.line).condition = .normal) :
    w.act env src a =
      { w with outputs := w.outputs.put a.line ((w.outputs.get a.line).take env src a.operation) } := if_pos takes

theorem Works.act_discarded
    (refuses : ¬((env.cfg.outputs.get a.line).mode = .action ∧ (w.outputs.get a.line).condition = .normal)) :
    w.act env src a = w := if_neg refuses

/-- A distance pulse begins on an ACTIVE source axis (R94). -/
theorem Output.take_pulseDist {h : Handle} (o : Output) (width : BitVec 16) (on : env.active h = true) :
    o.take env (some h) (.pulseDist width) =
      { o with level := true, pulse := .distance h (advance (env.cfg.geometry h) (env.position h) width.toNat) } :=
  if_pos on

/-- On any other it is released at once. -/
theorem Output.take_pulseDist_off {h : Handle} (o : Output) (width : BitVec 16) (off : env.active h = false) :
    o.take env (some h) (.pulseDist width) = { o with level := false, pulse := .idle } :=
  if_neg (by simp [off])

end Actions

/-! ### Pins (R87, R100) -/

section Pins

variable (s : State)

/-- A local axis is FAULTED (R18). -/
theorem State.axisFault_iff : s.axisFault = true ↔ ∃ i, (s.axes.get i).state = .faulted := by
  simp [State.axisFault, Fin.exists_fin_two]

/-- What asserts FAULT_OUT_N (R100). -/
theorem State.faultOut_iff : s.faultOut = true ↔
    s.bus.station = .lockedOut ∨ s.startup.status = .invalid ∨ ∃ i, (s.axes.get i).state = .faulted := by
  simp only [State.faultOut, Bool.or_eq_true, decide_eq_true_eq, s.axisFault_iff, or_assoc]

theorem State.outputPin_released {q : Fin 8} (released : (s.works.outputs.get q).condition = .released) :
    s.outputPin q = .released := by
  simp only [State.outputPin, released]

theorem State.outputPin_driven {q : Fin 8} (driven : (s.works.outputs.get q).condition ≠ .released) :
    s.outputPin q = if (s.works.outputs.get q).level ^^ (s.cfg.outputs.get q).lowActive then .high else .low := by
  unfold State.outputPin
  dsimp only
  split
  · rename_i released
    exact absurd released driven
  · rfl

end Pins

/-- Settles O21: an action by whether its line takes it (`Works.act_taken`, `Works.act_discarded`) and by its operation, the pin by
whether it is driven, FAULT_OUT_N by what asserts it. -/
theorem actionTaken : Obligations.ActionTaken := by
  refine ⟨fun w env src a => ⟨Works.act_discarded, fun takes => ?taken⟩, fun s q => ⟨s.outputPin_released, fun driven => ?pin⟩,
    fun s => ?fault⟩
  case taken =>
    refine ⟨_, Works.act_taken takes, (Output.take_condition ..).trans takes.2, Output.take_followed .., ?set, ?clear, ?time,
      ?dist⟩
    case set => intro op; rw [op]; exact ⟨rfl, rfl⟩
    case clear => intro op; rw [op]; exact ⟨rfl, rfl⟩
    case time => intro width op; rw [op]; exact ⟨rfl, rfl⟩
    case dist =>
      rintro width h op rfl
      rw [op]
      refine ⟨fun off => ?_, fun on => ?_⟩
      · rw [Output.take_pulseDist_off _ _ off]
        exact ⟨rfl, rfl⟩
      · rw [Output.take_pulseDist _ _ on]
        exact ⟨rfl, _, rfl, fun track => advance_track track _ _, fun ring below one => advance_ring ring below one _ _⟩
  case pin =>
    rw [s.outputPin_driven driven]
    constructor <;> intro polarity <;> cases (s.works.outputs.get q).level <;> simp [polarity]
  case fault =>
    rw [State.faultOutN, Bool.not_eq_false', Bool.and_eq_true, Bool.not_eq_true', s.faultOut_iff, and_comm]

/-! ### PULSE_OUTPUT (R98) -/

theorem exec_pulseOutput (s : State) (requester : Station) (tid line : Byte) (width : BitVec 16) :
    exec (.pulseOutput requester tid line width) s = .next (s.takeCommand requester tid (.pulseOutput line width)) := rfl

section PulseOutput

variable {s : State} {line : Byte} {width : BitVec 16} {q : Fin 8}

/-- With the parameters right, the condition of the line decides. -/
theorem State.pulseOutput_fit (named : q.val = line.toNat) (lasts : width ≠ 0)
    (action : (s.cfg.outputs.get q).mode = .action) :
    s.pulseOutput line width =
      if (s.works.outputs.get q).condition ≠ .normal then refuse .badState s
      else accept (s.withWorks (s.works.act s.env none ⟨q, .pulseTime width⟩)) := by
  have window : (s.cfg.outputs.get q).mode ≠ .window := by simp [action]
  rw [State.pulseOutput, indexOf_some named]
  exact if_neg (not_or.mpr ⟨lasts, window⟩)

/-- A line in NORMAL takes the action. -/
theorem State.pulseOutput_pulses (named : q.val = line.toNat) (lasts : width ≠ 0)
    (action : (s.cfg.outputs.get q).mode = .action) (normal : (s.works.outputs.get q).condition = .normal) :
    s.pulseOutput line width =
      accept (s.withWorks { s.works with
        outputs := s.works.outputs.put q
          { s.works.outputs.get q with level := true, pulse := .timed width.toNat 0 } }) := by
  rw [State.pulseOutput_fit named lasts action, if_neg (not_not.mpr normal), Works.act_taken ⟨action, normal⟩]
  rfl

/-- No such line, no width, or a WINDOW line, whatever its condition. -/
theorem State.pulseOutput_unfit
    (unfit : 8 ≤ line.toNat ∨ width = 0 ∨ ∃ q : Fin 8, q.val = line.toNat ∧ (s.cfg.outputs.get q).mode = .window) :
    s.pulseOutput line width = refuse .badParam s := by
  unfold State.pulseOutput
  split
  · rfl
  · rename_i q found
    have named := indexOf_eq_some found
    refine if_pos ?_
    rcases unfit with beyond | none | ⟨j, same, window⟩
    · omega
    · exact .inl none
    · exact .inr (Fin.ext (same.trans named.symm) ▸ window)

end PulseOutput

/-- Settles O51, by the checks in their order: the parameters, then the condition of the line. -/
theorem pulseOutputPulses : Obligations.PulseOutputPulses := by
  intro s requester tid line width x
  have pulses {a : Answer} (e : s.pulseOutput line width = a) (c : a.result.counted = true) :
      exec (.pulseOutput requester tid line width) s =
        .next (a.state.answered ⟨requester, tid, 0x0C, a.result, a.data⟩) := by
    rw [exec_pulseOutput, x.answers (c := .pulseOutput line width) e c]; rfl
  exact ⟨fun q named lasts action =>
    ⟨fun normal => pulses (State.pulseOutput_pulses named lasts action normal) rfl,
      fun other => pulses ((State.pulseOutput_fit named lasts action).trans (if_pos other)) rfl⟩,
    fun unfit => pulses (State.pulseOutput_unfit unfit) rfl⟩

end Sys2Proof.Machine
end

section
/-! The roster and the mirrors: what the own entry (R160) and the mirrors (R111) rest on, which parts of a step leave it as it
was, and which mirrors an event leaves ACTIVE. -/

namespace Sys2Proof.Machine

/-! ### What the roster and the mirrors rest on -/

/-- What R160 says of the own roster entry and R111 of the mirrors is said of this part of the station. -/
structure RosterView where
  cfg : Settings
  station : StationState
  number : Station
  mirrors : Bank Mirror 6
  roster : Bank RosterEntry 32

/-- That part of `s`. -/
def State.rosterView (s : State) : RosterView := ⟨s.cfg, s.bus.station, s.bus.number, s.mirrors, s.roster⟩

/-- From `s` to `t` the mirrors alone change of it. -/
def State.MirrorsAlone (s t : State) : Prop := t.rosterView = { s.rosterView with mirrors := t.mirrors }

/-- The roster holds station `n` PRESENT (R156). -/
def State.Present (s : State) (n : Station) : Prop := (s.roster.get (stationIndex n)).state = .present

section

variable {s t u : State}

theorem State.rosterView_parts (same : t.rosterView = s.rosterView) :
    t.cfg = s.cfg ∧ t.bus.station = s.bus.station ∧ t.bus.number = s.bus.number ∧ t.mirrors = s.mirrors ∧
      t.roster = s.roster := by
  simpa [State.rosterView] using same

theorem State.MirrorsAlone.parts (alone : s.MirrorsAlone t) :
    t.cfg = s.cfg ∧ t.bus.station = s.bus.station ∧ t.bus.number = s.bus.number ∧ t.roster = s.roster := by
  simpa [State.MirrorsAlone, State.rosterView] using alone

theorem State.MirrorsAlone.of_view (same : t.rosterView = s.rosterView) : s.MirrorsAlone t := by
  obtain ⟨-, -, -, mirrors, -⟩ := State.rosterView_parts same
  rw [State.MirrorsAlone, same, mirrors]
  rfl

theorem State.MirrorsAlone.refl (s : State) : s.MirrorsAlone s := rfl

theorem State.MirrorsAlone.trans (a : s.MirrorsAlone t) (b : t.MirrorsAlone u) : s.MirrorsAlone u := by
  unfold State.MirrorsAlone at *
  rw [b, a]

end

/-- Two stations have two roster entries. -/
theorem stationIndex_inj {m n : Station} : stationIndex m = stationIndex n ↔ m = n := by
  constructor
  · intro e
    exact BitVec.eq_of_toFin_eq e
  · exact congrArg stationIndex

/-! ### Publishing stations -/

/-- The publishing station is the line axis id divided by 2 (R102). -/
theorem publisher_eq_iff (id : BitVec 6) (n : Station) : publisher id = n ↔ id.toNat / 2 = n.toNat := by
  have below : id.toNat / 2 < 32 := by omega
  rw [← BitVec.toNat_inj]
  simp [publisher, Nat.shiftRight_eq_div_pow, Nat.mod_eq_of_lt below]

theorem Settings.publishes_iff (c : Settings) (n : Station) (i : Fin 6) :
    c.publishes n i = true ↔ ∃ id, (c.mirrors.get i).lineAxis = some id ∧ publisher id = n := by
  unfold Settings.publishes
  split
  · rename_i none
    simp [none]
  · rename_i id some
    simp [some]

/-! ### Which mirrors an event leaves ACTIVE -/

section

variable (s : State)

/-- A mirror that goes STALE is ACTIVE no more, every other as before (R111). -/
theorem State.staleMirror_active (i j : Fin 6) :
    ((s.staleMirror i).mirrors.get j).state = .active ↔ (s.mirrors.get j).state = .active ∧ i ≠ j := by
  unfold State.staleMirror
  dsimp only
  split
  · change ((s.mirrors.put i { s.mirrors.get i with state := .stale }).get j).state = .active ↔ _
    rw [Bank.get_put]
    split <;> simp_all
  · rename_i off
    exact ⟨fun on => ⟨on, fun e => off (e ▸ on)⟩, And.left⟩

theorem State.staleMirror_mirrorsAlone (i : Fin 6) : s.MirrorsAlone (s.staleMirror i) := by
  rw [s.staleMirror_frame i]; rfl

theorem State.stalePublished_mirrorsAlone (n : Station) (keep : List (Fin 6)) : s.MirrorsAlone (s.stalePublished n keep) := by
  rw [s.stalePublished_frame n keep]; rfl

/-- What mirrors of a list go STALE with station `n` are ACTIVE no more, every other as before (R111, R112). -/
theorem State.staleList_active (n : Station) (keep l : List (Fin 6)) (j : Fin 6) :
    ((l.foldl (fun s i => if s.cfg.publishes n i && !keep.contains i then s.staleMirror i else s) s).mirrors.get j).state =
        .active ↔
      (s.mirrors.get j).state = .active ∧ ¬(j ∈ l ∧ s.cfg.publishes n j = true ∧ j ∉ keep) := by
  induction l generalizing s with
  | nil => simp
  | cons i rest ih =>
    rw [List.foldl_cons, ih]
    by_cases goes : s.cfg.publishes n i = true ∧ i ∉ keep
    · have cfg : (s.staleMirror i).cfg = s.cfg := (s.staleMirror_mirrorsAlone i).parts.1
      rw [if_pos (by simpa using goes), cfg, s.staleMirror_active i j]
      by_cases e : j = i
      · subst e; simp [goes]
      · simp [e, Ne.symm e]
    · rw [if_neg (by simpa using goes)]
      by_cases e : j = i
      · subst e; simp [goes]
      · simp [e]

theorem State.stalePublished_active (n : Station) (keep : List (Fin 6)) (j : Fin 6) :
    ((s.stalePublished n keep).mirrors.get j).state = .active ↔
      (s.mirrors.get j).state = .active ∧ ¬(s.cfg.publishes n j = true ∧ j ∉ keep) := by
  rw [State.stalePublished, s.staleList_active]
  simp

/-- What a report makes of its mirror by R105: REMOTE_FAULT where it was, or ACTIVE as reported. -/
def Mirror.after (m : Mirror) (r : AxisReport) : Mirror :=
  if r.faulted then { m with state := .remoteFault } else ⟨.active, r.epoch, r.position, r.direction⟩

/-- A report reaches its own mirror alone. -/
theorem State.applyReport_mirrors (i : Fin 6) (r : AxisReport) :
    (s.applyReport i r).mirrors = s.mirrors.put i ((s.mirrors.get i).after r) := by
  unfold State.applyReport Mirror.after
  dsimp only
  split
  · split <;> rfl
  · split
    · rfl
    · rename_i same
      have taken : (s.mirrors.get i).takes r = ⟨.active, r.epoch, r.position, r.direction⟩ := by
        rw [not_not.mp same]; rfl
      rw [taken]
      split
      · rfl
      · split
        · rfl
        · split <;> rfl
      · split <;> rfl

theorem State.applyReport_mirrorsAlone (i : Fin 6) (r : AxisReport) : s.MirrorsAlone (s.applyReport i r) := by
  rw [s.applyReport_frame i r]; rfl

/-- A warm restart sets a mirror UNSEEN, and leaves every other (R116). -/
theorem State.restartMirror_mirrors (i : Fin 6) : (s.restartMirror i).mirrors = s.mirrors.put i Mirror.unseen := by
  unfold State.restartMirror
  dsimp only
  split <;> rfl

theorem State.restartMirror_mirrorsAlone (i : Fin 6) : s.MirrorsAlone (s.restartMirror i) := by
  unfold State.restartMirror
  dsimp only
  split <;> rfl

theorem State.restartList_mirrors (l : List (Fin 6)) (j : Fin 6) :
    (l.foldl (fun s i => s.restartMirror i) s).mirrors.get j = if j ∈ l then Mirror.unseen else s.mirrors.get j := by
  induction l generalizing s with
  | nil => simp
  | cons i rest ih =>
    rw [List.foldl_cons, ih, s.restartMirror_mirrors i, Bank.get_put]
    by_cases e : i = j
    · simp [e]
    · simp [e, Ne.symm e]

theorem State.restartList_mirrorsAlone (l : List (Fin 6)) : s.MirrorsAlone (l.foldl (fun s i => s.restartMirror i) s) :=
  foldl_frame _ State.MirrorsAlone .refl (fun _ _ _ a b => a.trans b) (fun s i => s.restartMirror_mirrorsAlone i) l s

end

/-! ### Parts of a step that are no concern of the roster and the mirrors -/

section LocalAxes

variable (s : State) (i : Fin 2)

@[simp] theorem State.count_rosterView (d : Direction) : (s.count i d).rosterView = s.rosterView := by
  unfold State.count
  dsimp only
  split <;> rfl

theorem State.quadSample_rosterView (a b a' b' : Bool) : (s.quadSample i a b a' b').rosterView = s.rosterView := by
  unfold State.quadSample
  split
  · rfl
  · exact s.count_rosterView i _
  · rfl

theorem State.pulseDirSample_rosterView (a a' b' : Bool) : (s.pulseDirSample i a a' b').rosterView = s.rosterView := by
  unfold State.pulseDirSample
  split
  · exact s.count_rosterView i _
  · rfl

theorem State.upDownSample_rosterView (a b a' b' : Bool) : (s.upDownSample i a b a' b').rosterView = s.rosterView := by
  have draw : (s.withWorks s.works.draw.2).rosterView = s.rosterView := rfl
  unfold State.upDownSample
  dsimp only
  split
  · split <;> simp [draw]
  · split
    · exact s.count_rosterView i _
    · split
      · exact s.count_rosterView i _
      · rfl

theorem State.sampleAB_rosterView (a b : Bool) : (s.sampleAB i a b).rosterView = s.rosterView := by
  have sampled : (s.withAxis i { s.axes.get i with refA := a, refB := b }).rosterView = s.rosterView := rfl
  unfold State.sampleAB
  dsimp only
  split
  · split
    · rfl
    · exact (State.quadSample_rosterView ..).trans sampled
    · exact (State.pulseDirSample_rosterView ..).trans sampled
    · exact (State.upDownSample_rosterView ..).trans sampled
  · rfl

theorem State.sampleZ_rosterView (z : Bool) : (s.sampleZ i z).rosterView = s.rosterView := by
  unfold State.sampleZ
  dsimp only
  split
  · split <;> rfl
  · rfl

end LocalAxes

section Sensors

variable (s : State) (k : Fin 4)

theorem State.sensorEdge_rosterView (level : Bool) : (s.sensorEdge k level).rosterView = s.rosterView := by
  unfold State.sensorEdge State.capture
  split
  · split
    · rfl
    · split
      · split <;> rfl
      · rfl
  · rfl

theorem State.qualify_rosterView : (s.qualify k).rosterView = s.rosterView :=
  State.sensorEdge_rosterView ..

theorem State.sensorSample_rosterView (level : Bool) : (s.sensorSample k level).rosterView = s.rosterView := by
  unfold State.sensorSample
  dsimp only
  split
  · rfl
  · split
    · rfl
    · split
      · exact State.qualify_rosterView ..
      · split <;> rfl

theorem State.qualifyPending_rosterView : (s.qualifyPending k).rosterView = s.rosterView := by
  unfold State.qualifyPending
  split
  · exact s.qualify_rosterView k
  · rfl

theorem State.holdInQualified_rosterView : s.holdInQualified.rosterView = s.rosterView := by
  unfold State.holdInQualified
  split <;> rfl

end Sensors

section Commands

variable (s : State)

theorem State.onLocalAxis_rosterView {handle : Byte} {f : Fin 2 → Answer}
    (effect : ∀ i, (f i).state.rosterView = s.rosterView) : (s.onLocalAxis handle f).state.rosterView = s.rosterView := by
  unfold State.onLocalAxis
  split
  · rfl
  · split
    · rfl
    · exact effect _

theorem State.trimCam_rosterView (ring entry : Byte) (position : BitVec 32) :
    (s.trimCam ring entry position).state.rosterView = s.rosterView := by
  unfold State.trimCam
  split
  · rfl
  · split
    · rfl
    · dsimp only
      split <;> rfl

theorem State.trimRule_rosterView (rule : Byte) (offset : BitVec 32) :
    (s.trimRule rule offset).state.rosterView = s.rosterView := by
  unfold State.trimRule
  split
  · rfl
  · split <;> rfl

theorem State.trimWindow_rosterView (window : Byte) (lower upper : BitVec 32) :
    (s.trimWindow window lower upper).state.rosterView = s.rosterView := by
  unfold State.trimWindow
  split
  · rfl
  · split
    · rfl
    · dsimp only
      split <;> rfl

theorem State.armRule_rosterView (index arm : Byte) : (s.armRule index arm).state.rosterView = s.rosterView := by
  unfold State.armRule
  split <;> rfl

theorem State.armRing_rosterView (index arm start : Byte) :
    (s.armRing index arm start).state.rosterView = s.rosterView := by
  unfold State.armRing
  split
  · dsimp only
    split
    · split
      · split <;> rfl
      · rfl
    · rfl
  · rfl

theorem State.injectEntry_rosterView (requester : Station) (handle : Byte) (due : BitVec 32) (sequence : BitVec 16)
    (tagClass : BitVec 4) (forward : Bool) (action : Option Action) :
    (s.injectEntry requester handle due sequence tagClass forward action).state.rosterView = s.rosterView := by
  unfold State.injectEntry
  split
  · rfl
  · split <;> rfl

theorem State.clearQueue_rosterView (handle : Byte) : (s.clearQueue handle).state.rosterView = s.rosterView := by
  unfold State.clearQueue
  split
  · rfl
  · split <;> rfl

theorem State.pulseOutput_rosterView (line : Byte) (width : BitVec 16) :
    (s.pulseOutput line width).state.rosterView = s.rosterView := by
  unfold State.pulseOutput
  split
  · rfl
  · split
    · rfl
    · split <;> rfl

/-- No command reaches the roster or a mirror. -/
theorem State.perform_rosterView (requester : Station) (c : Cmd) :
    (s.perform requester c).state.rosterView = s.rosterView := by
  cases c with
  | readStatus page handle => exact congrArg State.rosterView (s.readStatus_state page handle)
  | readQueue handle index => exact congrArg State.rosterView (s.readQueue_state handle index)
  | trimCam ring entry position => exact s.trimCam_rosterView ring entry position
  | trimRule rule offset => exact s.trimRule_rosterView rule offset
  | trimWindow window lower upper => exact s.trimWindow_rosterView window lower upper
  | armRule index arm start => exact s.armRule_rosterView index arm
  | armRing index arm start => exact s.armRing_rosterView index arm start
  | setOrigin handle value => exact s.onLocalAxis_rosterView fun i => by split <;> rfl
  | armIndex handle value => exact s.onLocalAxis_rosterView fun i => by split <;> rfl
  | armIndexCancel handle => exact s.onLocalAxis_rosterView fun _ => rfl
  | injectEntry handle due sequence tagClass forward action =>
    exact s.injectEntry_rosterView requester handle due sequence tagClass forward action
  | clearQueue handle => exact s.clearQueue_rosterView handle
  | clearCounts => rfl
  | pulseOutput line width => exact s.pulseOutput_rosterView line width
  | restart => rfl
  | unfit code => rfl
  | unknown code => rfl

theorem State.execute_rosterView (requester : Station) (c : Cmd) :
    (s.execute requester c).state.rosterView = s.rosterView := by
  unfold State.execute
  split
  · rfl
  · split
    · rfl
    · split
      · rfl
      · exact s.perform_rosterView requester c

theorem State.takeCommand_rosterView (requester : Station) (tid : Byte) (c : Cmd) :
    (s.takeCommand requester tid c).rosterView = s.rosterView := by
  unfold State.takeCommand
  split
  · rfl
  · split
    · rfl
    · split
      · rfl
      · exact s.execute_rosterView requester c

end Commands

end Sys2Proof.Machine
end

section
/-! What every step keeps of the roster and the mirrors: the own entry PRESENT in ROTATING alone (R160), and a mirror ACTIVE only
while its publishing station is PRESENT (R111). Each part of a step keeps both. -/

namespace Sys2Proof.Machine

/-- From `s` to `t` the own roster entry stays sound and so do the mirrors, each for itself. -/
structure State.KeepsRoster (s t : State) : Prop where
  own : s.OwnEntrySound → t.OwnEntrySound
  mirrors : s.MirrorsSound → t.MirrorsSound

section

variable {s t u : State}

theorem State.KeepsRoster.refl (s : State) : s.KeepsRoster s := ⟨id, id⟩

theorem State.KeepsRoster.trans (a : s.KeepsRoster t) (b : t.KeepsRoster u) : s.KeepsRoster u :=
  ⟨b.own ∘ a.own, b.mirrors ∘ a.mirrors⟩

/-- The same, the later part first. -/
theorem State.KeepsRoster.after (b : t.KeepsRoster u) (a : s.KeepsRoster t) : s.KeepsRoster u := a.trans b

theorem State.KeepsRoster.foldl {α : Type} {f : State → α → State} (one : ∀ (s : State) (x : α), s.KeepsRoster (f s x))
    (l : List α) (s : State) : s.KeepsRoster (l.foldl f s) :=
  foldl_frame f State.KeepsRoster .refl (fun _ _ _ a b => a.trans b) one l s

/-! ### What keeps the one and the other -/

/-- The station stays in its state, with the own entry as it was. -/
theorem State.OwnEntrySound.of_entry (sound : s.OwnEntrySound) (station : t.bus.station = s.bus.station)
    (number : t.bus.number = s.bus.number)
    (entry : (t.roster.get (stationIndex s.bus.number)).state = (s.roster.get (stationIndex s.bus.number)).state ∧
      (t.roster.get (stationIndex s.bus.number)).missed = (s.roster.get (stationIndex s.bus.number)).missed) :
    t.OwnEntrySound := by
  obtain ⟨state, missed⟩ := entry
  unfold State.OwnEntrySound at *
  rwa [number, station, state, missed]

/-- No mirror becomes ACTIVE, and of those that stay so the publishing stations stay PRESENT. -/
theorem State.MirrorsSound.of_fewer (sound : s.MirrorsSound) (cfg : t.cfg = s.cfg) (number : t.bus.number = s.bus.number)
    (loading : t.bus.station = .loading → s.bus.station = .loading)
    (fewer : ∀ i, (t.mirrors.get i).state = .active → (s.mirrors.get i).state = .active)
    (present : ∀ i id, (t.mirrors.get i).state = .active → (s.cfg.mirrors.get i).lineAxis = some id →
      publisher id ≠ s.bus.number → s.Present (publisher id) → t.Present (publisher id)) : t.MirrorsSound := by
  obtain ⟨others, off, heard⟩ := sound
  unfold State.MirrorsSound
  rw [cfg, number]
  refine ⟨others, fun l i on => off (loading l) i (fewer i on), fun i on => ?_⟩
  obtain ⟨id, axis, there⟩ := heard i (fewer i on)
  exact ⟨id, axis, present i id on axis (others i id axis) there⟩

/-- The mirrors alone change, and none becomes ACTIVE. -/
theorem State.KeepsRoster.of_mirrors (alone : s.MirrorsAlone t)
    (fewer : ∀ i, (t.mirrors.get i).state = .active → (s.mirrors.get i).state = .active) : s.KeepsRoster t := by
  obtain ⟨cfg, station, number, roster⟩ := alone.parts
  refine ⟨fun sound => sound.of_entry station number (by simp [roster]), fun sound =>
    sound.of_fewer cfg number (fun loading => station ▸ loading) fewer fun _ _ _ _ _ there => ?_⟩
  rwa [State.Present, roster]

theorem State.KeepsRoster.of_view (same : t.rosterView = s.rosterView) : s.KeepsRoster t := by
  obtain ⟨-, -, -, mirrors, -⟩ := State.rosterView_parts same
  exact .of_mirrors (.of_view same) fun i on => mirrors ▸ on

/-- A bus controller that stays in its station state is no concern of the roster. -/
theorem State.withBus_rosterView {b : Bus} (stays : s.bus.Stays b) : (s.withBus b).rosterView = s.rosterView := by
  simp [State.rosterView, stays.station, stays.number]

theorem State.withBus_keepsRoster {b : Bus} (stays : s.bus.Stays b) : s.KeepsRoster (s.withBus b) :=
  .of_view (State.withBus_rosterView stays)

theorem State.raise_rosterView (s : State) (k : NoticeKind) : (s.raise k).rosterView = s.rosterView := rfl

theorem State.refreshLines_keepsRoster : s.KeepsRoster s.refreshLines := .of_view rfl

theorem State.recomputeAll_keepsRoster : s.KeepsRoster (s.withWorks (s.works.recomputeAll s.env)) := .of_view rfl

/-! ### The roster entries -/

theorem State.Present.withEntry {n : Fin 32} {e : RosterEntry} {m : Station} (there : s.Present m)
    (state : n = stationIndex m → e.state = .present) : (s.withEntry n e).Present m := by
  rw [State.Present, State.withEntry_roster, Bank.get_put]
  split
  · rename_i same
    exact state same
  · exact there

/-- An entry that is PRESENT stays so, the own one with the misses it has. -/
theorem State.withEntry_keepsRoster {n : Fin 32} {e : RosterEntry}
    (state : (s.roster.get n).state = .present → e.state = .present)
    (own : n = stationIndex s.bus.number → e.state = (s.roster.get n).state ∧ e.missed = (s.roster.get n).missed) :
    s.KeepsRoster (s.withEntry n e) := by
  refine ⟨fun sound => sound.of_entry rfl rfl ?_, fun sound => sound.of_fewer rfl rfl id (fun _ => id) fun _ _ _ _ _ there =>
    there.withEntry fun same => state (same ▸ there)⟩
  rw [State.withEntry_roster, Bank.get_put]
  split
  · rename_i same
    exact same ▸ own same
  · exact ⟨rfl, rfl⟩

/-- Another station's entry may become anything when the mirrors it publishes go STALE (R111). -/
theorem State.stalePublished_keepsRoster {j : Station} {e : RosterEntry} (other : j ≠ s.bus.number)
    (entry : u.rosterView = (s.withEntry (stationIndex j) e).rosterView) : s.KeepsRoster (u.stalePublished j []) := by
  obtain ⟨cfg, station, number, mirrors, roster⟩ := State.rosterView_parts entry
  obtain ⟨cfg', station', number', roster'⟩ := (u.stalePublished_mirrorsAlone j []).parts
  have elsewhere {m : Station} (ne : m ≠ j) :
      (u.stalePublished j []).roster.get (stationIndex m) = s.roster.get (stationIndex m) := by
    rw [roster', roster, State.withEntry_roster, Bank.get_put_ne _ _ fun same => ne (stationIndex_inj.mp same).symm]
  have active (i : Fin 6) := u.stalePublished_active j [] i
  rw [mirrors, cfg] at active
  refine ⟨fun sound => sound.of_entry (station'.trans station) (number'.trans number) (by simp [elsewhere other.symm]),
    fun sound => sound.of_fewer (cfg'.trans cfg) (number'.trans number) (fun loading => ?_)
      (fun i on => ((active i).mp on).1) fun i id on axis _ there => ?_⟩
  · rwa [station', station] at loading
  · have ne : publisher id ≠ j := fun publishes =>
      ((active i).mp on).2 ⟨(s.cfg.publishes_iff j i).mpr ⟨id, axis, publishes⟩, List.not_mem_nil⟩
    rwa [State.Present, elsewhere ne]

/-! ### The station state -/

/-- The own entry goes with the station state (R160), and no mirror looks at it (R102). -/
theorem State.enterStation_keepsRoster {st : StationState} (loaded : st ≠ .loading) : s.KeepsRoster (s.enterStation st) := by
  have entry : (s.enterStation st).roster.get (stationIndex s.bus.number) =
      { s.roster.get (stationIndex s.bus.number) with
        state := if st = .rotating then .present else .unknown, missed := 0 } := Bank.get_put_self ..
  exact ⟨fun _ => ⟨congrArg RosterEntry.state entry, congrArg RosterEntry.missed entry⟩,
    fun sound => sound.of_fewer rfl rfl (fun loading => absurd loading loaded) (fun _ => id)
      fun _ id _ _ other there => there.withEntry (s := s.withBus { s.bus with station := st }) fun same =>
        absurd (stationIndex_inj.mp same).symm other⟩

theorem State.join_keepsRoster (s : State) : s.KeepsRoster s.join :=
  (State.KeepsRoster.of_view (s := s.enterStation .rotating) (t := s.join) rfl).after (State.enterStation_keepsRoster nofun)

theorem State.lockOut_keepsRoster (s : State) : s.KeepsRoster s.lockOut :=
  (State.KeepsRoster.of_view (s := s.enterStation .lockedOut) (t := s.lockOut) rfl).after (State.enterStation_keepsRoster nofun)

end

/-! ### Misses and headers -/

section

variable (s : State)

/-- A miss (R158, R159) leaves no mirror of the station ACTIVE. -/
theorem State.miss_keepsRoster (j : Station) : s.KeepsRoster (s.miss j) := by
  unfold State.miss
  dsimp only
  split
  · rename_i counts
    split
    · exact State.stalePublished_keepsRoster counts.2 rfl
    · exact State.refreshLines_keepsRoster.after (State.stalePublished_keepsRoster counts.2 (State.raise_rosterView _ _))
  · exact .refl s

theorem State.countMisses_keepsRoster (a : Option Station) (k : Station) : s.KeepsRoster (s.countMisses a k) := by
  unfold State.countMisses
  split
  · exact .refl s
  · refine State.KeepsRoster.foldl (fun s d => ?_) _ s
    dsimp only
    split
    · exact s.miss_keepsRoster _
    · exact .refl s

/-- A count of misses leaves the settings and the bus controller. -/
theorem State.countMisses_parts (a : Option Station) (k : Station) :
    (s.countMisses a k).cfg = s.cfg ∧ (s.countMisses a k).bus = s.bus := by
  have frame := s.countMisses_frame a k
  unfold RosterOnly at frame
  rw [frame]
  exact ⟨rfl, rfl⟩

theorem State.applyHeader_keepsRoster {source : Station} (other : source ≠ s.bus.number) (a : Option Station) (hold : Bool) :
    s.KeepsRoster (s.applyHeader a source hold) := by
  refine (s.countMisses_keepsRoster a source).trans (State.refreshLines_keepsRoster.after ?_)
  refine State.withEntry_keepsRoster (fun _ => rfl) fun own => absurd (stationIndex_inj.mp own) ?_
  rwa [(s.countMisses_parts a source).2]

theorem State.completeRoster_keepsRoster (a : Option Station) (f : Flight) : s.KeepsRoster (s.completeRoster a f) :=
  (State.withEntry_keepsRoster (s := s) (e := { s.roster.get (stationIndex s.bus.number) with hold := f.hold }) id
    fun _ => ⟨rfl, rfl⟩).trans ((State.countMisses_keepsRoster ..).trans State.refreshLines_keepsRoster)

end

/-! ### The items of a frame -/

/-- What the items of a frame from `source` find (R142, R157): LOADING is over, and the station is PRESENT. -/
structure State.Knows (s : State) (source : Station) : Prop where
  loaded : s.bus.station ≠ .loading
  present : s.Present source

section

variable {s t : State} {source : Station}

theorem State.Knows.of_mirrors (knows : s.Knows source) (alone : s.MirrorsAlone t) : t.Knows source := by
  obtain ⟨-, station, -, roster⟩ := alone.parts
  exact ⟨station ▸ knows.loaded, by rw [State.Present, roster]; exact knows.present⟩

/-- The source of a frame is PRESENT once the header has been applied. -/
theorem State.applyHeader_knows (loaded : s.bus.station ≠ .loading) (a : Option Station) (hold : Bool) :
    (s.applyHeader a source hold).Knows source := by
  constructor
  · change (s.countMisses a source).bus.station ≠ .loading
    rwa [(s.countMisses_parts a source).2]
  · exact congrArg RosterEntry.state (Bank.get_put_self ..)

/-- It stays so when the station joins. -/
theorem State.Knows.join (knows : s.Knows source) (other : source ≠ s.bus.number) : s.join.Knows source := by
  refine ⟨nofun, ?_⟩
  change (s.enterStation .rotating).Present source
  exact State.Present.withEntry (s := s.withBus { s.bus with station := .rotating }) knows.present fun own =>
    absurd (stationIndex_inj.mp own).symm other

/-- A report makes its mirror ACTIVE while its station is PRESENT. -/
theorem State.applyReport_keepsRoster {i : Fin 6} {id : BitVec 6} (axis : (s.cfg.mirrors.get i).lineAxis = some id)
    (knows : s.Knows (publisher id)) (r : AxisReport) : s.KeepsRoster (s.applyReport i r) := by
  obtain ⟨cfg, station, number, roster⟩ := (s.applyReport_mirrorsAlone i r).parts
  refine ⟨fun sound => sound.of_entry station number (by simp [roster]), fun sound => ?_⟩
  obtain ⟨others, -, heard⟩ := sound
  unfold State.MirrorsSound
  rw [cfg, number, station, roster, s.applyReport_mirrors i r]
  refine ⟨others, fun loading => absurd loading knows.loaded, fun j on => ?_⟩
  by_cases e : i = j
  · exact ⟨id, e ▸ axis, knows.present⟩
  · rw [Bank.get_put_ne _ _ e] at on
    exact heard j on

/-- The mirror that a line axis id finds subscribes it (R104). -/
theorem Settings.subscriber_some {c : Settings} {id : BitVec 6} {i : Fin 6} (found : c.subscriber id = some i) :
    (c.mirrors.get i).lineAxis = some id := by
  simpa using List.find?_some found

theorem State.applyAxisItem_mirrorsAlone (s : State) (source : Station) (r : AxisReport) :
    s.MirrorsAlone (s.applyAxisItem source r).2 := by
  unfold State.applyAxisItem
  split
  · exact .refl s
  · split
    · exact .of_view rfl
    · split
      · exact .refl s
      · dsimp only
        split
        · exact .of_view rfl
        · split
          · exact .of_view rfl
          · exact s.applyReport_mirrorsAlone _ r

theorem State.applyAxisItem_keepsRoster (knows : s.Knows source) (r : AxisReport) :
    s.KeepsRoster (s.applyAxisItem source r).2 := by
  unfold State.applyAxisItem
  split
  · exact .refl s
  · split
    · exact .of_view rfl
    · rename_i publishes
      split
      · exact .refl s
      · rename_i i found
        dsimp only
        split
        · exact .of_view rfl
        · split
          · exact .of_view rfl
          · exact State.applyReport_keepsRoster (Settings.subscriber_some found) (not_not.mp publishes ▸ knows) r

/-- An item is taken as a report, or leaves the roster and the mirrors as they are. -/
theorem State.applyItem_cases (s : State) (source : Station) (taken : List (Fin 6)) (i : Item) :
    (s.applyItem source taken i).2.rosterView = s.rosterView ∨
      ∃ r, (s.applyItem source taken i).2 = (s.applyAxisItem source r).2 := by
  unfold State.applyItem
  split
  · split
    · exact .inl rfl
    · exact .inr ⟨_, rfl⟩
  · split
    · exact .inl rfl
    · split <;> exact .inl rfl
  · split
    · exact .inl rfl
    · split
      · exact .inl (State.takeCommand_rosterView ..)
      · exact .inl rfl
  · exact .inl rfl

theorem State.applyItem_mirrorsAlone (s : State) (source : Station) (taken : List (Fin 6)) (i : Item) :
    s.MirrorsAlone (s.applyItem source taken i).2 := by
  obtain same | ⟨r, report⟩ := s.applyItem_cases source taken i
  · exact .of_view same
  · exact report ▸ s.applyAxisItem_mirrorsAlone source r

theorem State.applyItem_keepsRoster (knows : s.Knows source) (taken : List (Fin 6)) (i : Item) :
    s.KeepsRoster (s.applyItem source taken i).2 := by
  obtain same | ⟨r, report⟩ := s.applyItem_cases source taken i
  · exact .of_view same
  · exact report ▸ State.applyAxisItem_keepsRoster knows r

theorem State.applyItems_keepsRoster (knows : s.Knows source) (taken : List (Fin 6)) (l : List Item) :
    s.KeepsRoster (s.applyItems source taken l).2 := by
  induction l generalizing s taken with
  | nil => exact .refl s
  | cons i rest ih =>
    exact (State.applyItem_keepsRoster knows taken i).trans (ih (knows.of_mirrors (s.applyItem_mirrorsAlone source taken i)) _)

/-- The check of R112 makes mirrors STALE alone. -/
theorem State.applyBody_keepsRoster {f : Frame} (knows : s.Knows f.source) : s.KeepsRoster (s.applyBody f) :=
  (State.applyItems_keepsRoster knows [] f.items).trans
    (.of_mirrors (State.stalePublished_mirrorsAlone ..) fun i on => ((State.stalePublished_active _ _ _ i).mp on).1)

end

/-! ### The bus -/

section BusControl

variable (s : State)

theorem State.busSample_keepsRoster (x : BusSample) : s.KeepsRoster (s.busSample x) := by
  unfold State.busSample
  split
  · split
    · exact State.withBus_keepsRoster (Bus.startBit_stays ..)
    · exact .refl s
  · exact .refl s
  · split
    · exact State.withBus_keepsRoster (Bus.startBit_stays ..)
    · exact State.withBus_keepsRoster (.same rfl rfl rfl)

theorem State.unjudgedFrame_keepsRoster (idle : Nat) : s.KeepsRoster (s.unjudgedFrame idle) := .of_view rfl

theorem State.corruptFrame_keepsRoster (idle : Nat) : s.KeepsRoster (s.corruptFrame idle) := .of_view rfl

theorem State.ownNumberFrame_keepsRoster : s.KeepsRoster s.ownNumberFrame := by
  have ended : s.KeepsRoster (s.withBus (s.bus.frameEnded (some s.bus.number) 0)) := .of_view rfl
  unfold State.ownNumberFrame
  dsimp only
  split
  · exact ended
  · exact ended.trans (State.lockOut_keepsRoster _)

/-- The station once the header of a frame has been applied, and the bus has taken the frame's end (R131, R157). -/
def State.headed (f : Frame) : State :=
  let t := (s.withWorks (s.works.count framesReceived)).applyHeader s.bus.anchor f.source f.hold
  t.withBus ((t.bus.frameEnded (some f.source) 0).record f.source)

/-- A frame's body is then applied, by a station that may join after it or before (R132, R142). -/
theorem State.acceptFrame_cases (f : Frame) :
    s.acceptFrame f = (s.headed f).applyBody f ∨
      ∃ w, s.acceptFrame f = (((s.headed f).withWorks w).applyBody f).join ∨
        s.acceptFrame f = ((s.headed f).withWorks w).join.applyBody f := by
  unfold State.acceptFrame
  dsimp only
  split
  · split
    · exact .inr ⟨(s.headed f).works, .inl rfl⟩
    · split
      · exact .inr ⟨(s.headed f).works.draw.2, .inl rfl⟩
      · exact .inr ⟨(s.headed f).works.draw.2, .inr rfl⟩
  · exact .inl rfl

theorem State.headed_stays (f : Frame) : s.bus.Stays (s.headed f).bus := by
  have bus : ((s.withWorks (s.works.count framesReceived)).applyHeader s.bus.anchor f.source f.hold).bus = s.bus :=
    (State.countMisses_parts ..).2
  unfold State.headed
  dsimp only [State.withBus_bus]
  rw [bus]
  exact (Bus.frameEnded_stays ..).trans (Bus.record_stays ..)

theorem State.headed_keepsRoster {f : Frame} (other : f.source ≠ s.bus.number) : s.KeepsRoster (s.headed f) := by
  have counted : s.KeepsRoster (s.withWorks (s.works.count framesReceived)) := .of_view rfl
  have heard := State.applyHeader_keepsRoster (s.withWorks (s.works.count framesReceived)) other s.bus.anchor f.hold
  exact (counted.trans heard).trans (State.withBus_keepsRoster ((Bus.frameEnded_stays ..).trans (Bus.record_stays ..)))

theorem State.headed_knows (loaded : s.bus.station ≠ .loading) (f : Frame) : (s.headed f).Knows f.source :=
  have heard := State.applyHeader_knows (s := s.withWorks (s.works.count framesReceived)) (source := f.source) loaded
    s.bus.anchor f.hold
  heard.of_mirrors (.of_view (State.withBus_rosterView ((Bus.frameEnded_stays ..).trans (Bus.record_stays ..))))

/-- A station that joins on a frame knows its source before and after. -/
theorem State.acceptFrame_keepsRoster (loaded : s.bus.station ≠ .loading) {f : Frame} (other : f.source ≠ s.bus.number) :
    s.KeepsRoster (s.acceptFrame f) := by
  have headed := s.headed_keepsRoster other
  have knows := s.headed_knows loaded f
  have drawn (w : Works) : ((s.headed f).withWorks w).Knows f.source := knows.of_mirrors (.of_view rfl)
  have drawing (w : Works) : s.KeepsRoster ((s.headed f).withWorks w) := headed.trans (.of_view rfl)
  obtain body | ⟨w, after | before⟩ := s.acceptFrame_cases f
  · rw [body]
    exact headed.trans (State.applyBody_keepsRoster knows)
  · rw [after]
    exact ((drawing w).trans (State.applyBody_keepsRoster (drawn w))).trans (State.join_keepsRoster _)
  · have others : f.source ≠ ((s.headed f).withWorks w).bus.number := fun own => other (own.trans (s.headed_stays f).number)
    rw [before]
    exact ((drawing w).trans (State.join_keepsRoster _)).trans (State.applyBody_keepsRoster ((drawn w).join others))

theorem State.judgeFrame_keepsRoster (loaded : s.bus.station ≠ .loading) (bytes : List Byte) :
    s.KeepsRoster (s.judgeFrame bytes) := by
  unfold State.judgeFrame
  split
  · exact s.corruptFrame_keepsRoster 0
  · split
    · exact s.ownNumberFrame_keepsRoster
    · rename_i other
      exact s.acceptFrame_keepsRoster loaded other

theorem State.frameEnd_keepsRoster (loaded : s.bus.station ≠ .loading) (bytes : List Byte) :
    s.KeepsRoster (s.frameEnd bytes) := by
  unfold State.frameEnd
  split
  · exact s.unjudgedFrame_keepsRoster 0
  · exact s.unjudgedFrame_keepsRoster 0
  · exact s.corruptFrame_keepsRoster 0
  · dsimp only
    split
    · exact s.judgeFrame_keepsRoster loaded _
    · exact (s.judgeFrame_keepsRoster loaded _).trans (.of_view rfl)

theorem State.idleEnd_keepsRoster : s.KeepsRoster s.idleEnd := by
  unfold State.idleEnd
  dsimp only
  split
  · exact s.unjudgedFrame_keepsRoster _
  · exact s.unjudgedFrame_keepsRoster _
  · exact s.corruptFrame_keepsRoster _

theorem State.emptyBus_keepsRoster : s.KeepsRoster s.emptyBus := by
  unfold State.emptyBus
  split
  · exact (State.join_keepsRoster _).after (State.withBus_keepsRoster (.same rfl rfl rfl))
  · exact .refl s

theorem State.startFrame_keepsRoster : s.KeepsRoster s.startFrame := by
  unfold State.startFrame
  split
  · exact .of_view rfl
  · exact .refl s

theorem State.completeFrame_keepsRoster (f : Flight) : s.KeepsRoster (s.completeFrame f) := by
  unfold State.completeFrame
  dsimp only
  let ended : Bus := { s.bus.frameEnded (some s.bus.number) 0 with flight := none, rxd := true }
  refine State.KeepsRoster.trans (t := (s.withBus ended).withWorks (s.works.completeItems f)) (.of_view rfl) ?_
  have drawn (w : Works) : ((s.withBus ended).withWorks (s.works.completeItems f)).KeepsRoster
      (((s.withBus ended).withWorks (s.works.completeItems f)).withWorks w) := .of_view rfl
  split
  · exact (drawn _).trans (State.completeRoster_keepsRoster ..)
  · split
    · exact (drawn _).trans (State.completeRoster_keepsRoster ..)
    · exact ((drawn _).trans (State.completeRoster_keepsRoster ..)).trans (.of_view rfl)

/-- A station that restarts its mirrors, LISTENING with an empty roster, has none ACTIVE (R116). -/
theorem State.restartList_keepsRoster {s t : State} (cfg : t.cfg = s.cfg) (station : t.bus.station = .listening)
    (number : t.bus.number = s.bus.number) (roster : t.roster = Bank.fill ⟨.unknown, 0, false⟩) :
    s.KeepsRoster ((List.finRange 6).foldl (fun s i => s.restartMirror i) t) := by
  obtain ⟨cfg', station', number', roster'⟩ := (t.restartList_mirrorsAlone (List.finRange 6)).parts
  have unseen (i : Fin 6) :
      (((List.finRange 6).foldl (fun s i => s.restartMirror i) t).mirrors.get i).state ≠ .active := by
    rw [State.restartList_mirrors, if_pos (List.mem_finRange i)]
    nofun
  refine ⟨fun _ => ?_, fun sound => sound.of_fewer (cfg'.trans cfg) (number'.trans number) (fun loading => ?_)
    (fun i on => absurd on (unseen i)) fun i _ on => absurd on (unseen i)⟩
  · unfold State.OwnEntrySound
    rw [station', station, number', roster', roster, Bank.get_fill]
    exact ⟨rfl, rfl⟩
  · rw [station', station] at loading
    cases loading

/-- A warm restart leaves no station PRESENT and no mirror ACTIVE (R116, R184). -/
theorem State.warmRestart_keepsRoster : s.KeepsRoster s.warmRestart :=
  State.recomputeAll_keepsRoster.after (State.refreshLines_keepsRoster.after
    (State.restartList_keepsRoster rfl rfl rfl rfl))

theorem State.complete_keepsRoster : s.KeepsRoster s.complete := by
  unfold State.complete
  split
  · exact .refl s
  · split
    · exact (s.completeFrame_keepsRoster _).trans (State.warmRestart_keepsRoster _)
    · exact s.completeFrame_keepsRoster _

theorem State.abortFrame_keepsRoster (x : Mismatch) : s.KeepsRoster (s.abortFrame x) := by
  unfold State.abortFrame
  split
  · exact .refl s
  · exact State.KeepsRoster.trans (t := s.raise .collision) (.of_view rfl) (State.withBus_keepsRoster (s.bus.abandon_stays x))

end BusControl

/-! ### Start-up -/

section StartUp

variable (s : State)

/-- A block without a failing check passes check 7 (R190). -/
theorem Block.passes7 {b : Block} {own : Station} (none : b.failing own = none) : b.fails7 own = false := by
  have passes := List.find?_eq_none.mp (Option.map_eq_none_iff.mp none)
  simpa using passes (7, b.fails7 own) (by simp [Block.checks])

/-- The mirrors of such a block subscribe no own axis (R102). -/
theorem Block.publishers_of_passes7 {b : Block} {own : Station} (passes : b.fails7 own = false) (i : Fin 6) {id : BitVec 6}
    (axis : (b.settings.mirrors.get i).lineAxis = some id) : publisher id ≠ own := by
  have setting : b.settings.mirrors.get i = (b.mirrors.get i).settings := Bank.get_tabulate ..
  have record := List.any_eq_false.mp passes i (List.mem_finRange i)
  simp only [Bool.or_eq_true, decide_eq_true_eq, not_or] at record
  obtain ⟨⟨⟨-, even⟩, odd⟩, -⟩ := record
  rw [setting, MirrorRecord.settings] at axis
  split at axis
  · rename_i below
    cases axis
    rw [Ne, publisher_eq_iff, BitVec.toNat_setWidth, Nat.mod_eq_of_lt below]
    omega
  · cases axis

/-- A station without settings and mirrors, in LOADING (R116, R186). -/
theorem State.KeepsRoster.of_cold {s t : State} (cfg : t.cfg = Settings.unconfigured) (station : t.bus.station = .loading)
    (mirrors : t.mirrors = Bank.fill Mirror.unseen) (roster : t.roster = Bank.fill ⟨.unknown, 0, false⟩) :
    s.KeepsRoster t := by
  have unseen (i : Fin 6) : (t.mirrors.get i).state ≠ .active := by simp [mirrors, Mirror.unseen]
  refine ⟨fun _ => ?_, fun _ => ⟨fun i id axis => ?_, fun _ => unseen, fun i on => absurd on (unseen i)⟩⟩
  · simp [State.OwnEntrySound, station, roster]
  · simp [cfg, Settings.unconfigured] at axis

/-- LOADING ends with the roster and the mirrors as they were (R191, R192), under settings that subscribe no own axis. -/
theorem State.KeepsRoster.loads {s t : State} (loading : s.bus.station = .loading) (station : t.bus.station = .listening)
    (number : t.bus.number = s.bus.number) (mirrors : t.mirrors = s.mirrors) (roster : t.roster = s.roster)
    (publishers : t.cfg = s.cfg ∨ ∀ i id, (t.cfg.mirrors.get i).lineAxis = some id → publisher id ≠ s.bus.number) :
    s.KeepsRoster t := by
  refine ⟨fun sound => ?_, fun sound => ?_⟩
  · unfold State.OwnEntrySound at *
    rw [loading] at sound
    rwa [roster, number, station]
  · obtain ⟨others, off, -⟩ := sound
    refine ⟨fun i id axis => ?_, fun l => ?_, fun i on => ?_⟩
    · rw [number]
      rcases publishers with same | publishers
      · exact others i id (same ▸ axis)
      · exact publishers i id axis
    · rw [station] at l
      cases l
    · rw [mirrors] at on
      exact absurd on (off loading i)

theorem State.degrade_keepsRoster (loading : s.bus.station = .loading) (check : Nat) : s.KeepsRoster (s.degrade check) :=
  .loads loading rfl rfl rfl rfl (.inl rfl)

theorem State.judgePass_keepsRoster (loading : s.bus.station = .loading) (memory : List Byte) (miso : Bool) :
    s.KeepsRoster (s.judgePass memory miso) := by
  unfold State.judgePass
  split
  · split
    · exact .of_view rfl
    · exact s.degrade_keepsRoster loading 1
  · dsimp only
    split
    · exact s.degrade_keepsRoster loading _
    · rename_i none
      exact .loads loading rfl rfl rfl rfl (.inr fun i id axis => Block.publishers_of_passes7 (Block.passes7 none) i axis)

end StartUp

/-! ### The clock -/

section Clock

variable (s : State)

theorem State.advanceClock_keepsRoster : s.KeepsRoster s.advanceClock := by
  have bus : s.bus.Stays s.advanceClock.bus := by
    unfold State.advanceClock
    dsimp only
    split
    · exact s.bus.tick_stays
    · exact .refl _
  refine .of_view ?_
  unfold State.rosterView
  rw [bus.station, bus.number]
  rfl

theorem State.sound_keepsRoster (a : Alarm) : s.KeepsRoster (s.sound a) := by
  cases a with
  | pulse q => exact .of_view rfl
  | sensor k => exact .of_view (s.qualifyPending_rosterView k)
  | holdIn => exact .of_view s.holdInQualified_rosterView
  | frameEnd => exact s.idleEnd_keepsRoster
  | emptyBus => exact s.emptyBus_keepsRoster
  | wait => exact s.startFrame_keepsRoster

theorem State.soundAll_keepsRoster (l : List Alarm) : s.KeepsRoster (s.soundAll l) :=
  .foldl (fun s a => by
    split
    · exact s.sound_keepsRoster a
    · exact .refl s) l s

theorem State.tick_keepsRoster : s.KeepsRoster s.tick := by
  unfold State.tick
  dsimp only
  split
  · exact .refl s
  · have arranged (w : Works) : s.advanceClock.KeepsRoster (s.advanceClock.withWorks w) := .of_view rfl
    exact s.advanceClock_keepsRoster.trans ((arranged _).trans (State.soundAll_keepsRoster _ _))

end Clock

/-! ### The rows -/

/-- Whatever row brought it, a command keeps the roster and the mirrors. -/
theorem exec_keepsRoster (i : Instr) (s : State) : ∃ t, exec i s = .next t ∧ s.KeepsRoster t := by
  cases i with
  | coldReset number rate => exact ⟨_, rfl, .of_cold rfl rfl rfl rfl⟩
  | readPass memory miso =>
    refine ⟨_, rfl, ?_⟩
    split
    · rename_i reads
      exact s.judgePass_keepsRoster reads.2 memory miso
    · exact .refl s
  | quad4Edge axis a b => exact ⟨_, rfl, .of_view (s.sampleAB_rosterView axis a b)⟩
  | pulseDirEdge axis a b => exact ⟨_, rfl, .of_view (s.sampleAB_rosterView axis a b)⟩
  | upDownEdge axis a b => exact ⟨_, rfl, .of_view (s.sampleAB_rosterView axis a b)⟩
  | risingZEdge axis z => exact ⟨_, rfl, .of_view (s.sampleZ_rosterView axis z)⟩
  | timedPulseExpiry line => exact ⟨_, rfl, .of_view rfl⟩
  | sensorPinChange sensor level => exact ⟨_, rfl, .of_view (s.sensorSample_rosterView sensor level)⟩
  | qualifiedChange sensor => exact ⟨_, rfl, .of_view (s.qualifyPending_rosterView sensor)⟩
  | holdInChange level => exact ⟨_, rfl, .of_view rfl⟩
  | holdInQualify => exact ⟨_, rfl, .of_view s.holdInQualified_rosterView⟩
  | startBit sample => exact ⟨_, rfl, s.busSample_keepsRoster sample⟩
  | receiveFrame bytes =>
    refine ⟨_, rfl, ?_⟩
    split
    · rename_i hears
      exact s.frameEnd_keepsRoster (s.hears_iff.mp hears).loaded bytes
    · exact .refl s
  | frameEndByIdle =>
    refine ⟨_, rfl, ?_⟩
    split
    · exact s.idleEnd_keepsRoster
    · exact .refl s
  | emptyBus => exact ⟨_, rfl, s.emptyBus_keepsRoster⟩
  | waitExpiry => exact ⟨_, rfl, s.startFrame_keepsRoster⟩
  | completion => exact ⟨_, rfl, s.complete_keepsRoster⟩
  | abort mismatch => exact ⟨_, rfl, s.abortFrame_keepsRoster mismatch⟩
  | resetNAsserted => exact ⟨_, rfl, .of_cold rfl rfl rfl rfl⟩
  | _ => exact ⟨_, rfl, .of_view (s.takeCommand_rosterView ..)⟩

theorem step_keepsRoster {s t : State} (e : step s = .next t) : s.KeepsRoster t := by
  unfold step at e
  split at e
  · cases e
    exact s.tick_keepsRoster
  · rename_i c rest _
    have popped : s.KeepsRoster { s with pending := rest } := .of_view rfl
    obtain ⟨u, eq, keeps⟩ := exec_keepsRoster c { s with pending := rest }
    cases eq.symm.trans e
    exact popped.trans keeps

/-- Settles O59: the own entry goes with the station state (`State.enterStation_keepsRoster`), a report finds its station PRESENT
(`State.applyReport_keepsRoster`), and a station that may be lost takes its mirrors with it
(`State.stalePublished_keepsRoster`), in every row (`exec_keepsRoster`). -/
theorem stepKeepsRoster : Obligations.StepKeepsRoster :=
  ⟨fun _ _ sound e => (step_keepsRoster e).own sound, fun _ _ sound e => (step_keepsRoster e).mirrors sound⟩

end Sys2Proof.Machine
end

section
/-! The statements about the axis mirror (chapter 6): the checks of an AXIS item (R104), and what a report makes of its mirror and
of the consumers (R105 to R110). -/

namespace Sys2Proof.Machine

/-! ### The checks of an AXIS item (R104) -/

section Checks

variable {s : State} {source : Station} {r : AxisReport} {i : Fin 6}

theorem Settings.subscriber_none {c : Settings} {id : BitVec 6} (unused : ∀ i, (c.mirrors.get i).lineAxis ≠ some id) :
    c.subscriber id = none := by
  simpa [Settings.subscriber, List.find?_eq_none] using unused

/-- The one mirror that subscribes an id is the one it finds. -/
theorem Settings.subscriber_only {c : Settings} {id : BitVec 6} {i : Fin 6} (axis : (c.mirrors.get i).lineAxis = some id)
    (only : ∀ j, (c.mirrors.get j).lineAxis = some id → j = i) : c.subscriber id = some i := by
  cases found : c.subscriber id with
  | none => exact absurd axis (by simpa using List.find?_eq_none.mp found i (List.mem_finRange i))
  | some j => rw [only j (Settings.subscriber_some found)]

theorem State.applyAxisItem_invalid (invalid : s.startup.status ≠ .valid) : s.applyAxisItem source r = (none, s) :=
  if_pos (by simp [State.valid, invalid])

theorem State.applyAxisItem_foreign (valid : s.startup.status = .valid) (foreign : publisher r.lineAxis ≠ source) :
    s.applyAxisItem source r = (none, s.raise .badFrame) :=
  (if_neg (by simp [State.valid, valid])).trans (if_pos foreign)

/-- Past the second check the mirror that subscribes the axis decides. -/
theorem State.applyAxisItem_published (valid : s.startup.status = .valid) (own : publisher r.lineAxis = source) :
    s.applyAxisItem source r =
      match s.cfg.subscriber r.lineAxis with
      | none => (none, s)
      | some i =>
        if r.kind ≠ (s.cfg.mirrors.get i).kind then (none, s.raise .badFrame)
        else if r.kind = .ring ∧ (s.cfg.mirrors.get i).modulus ≤ r.position.toNat then (none, s.raise .badFrame)
        else (some i, s.applyReport i r) :=
  (if_neg (by simp [State.valid, valid])).trans (if_neg (not_not.mpr own))

end Checks

/-- Settles O38, check by check: the configuration, the publishing station (`publisher_eq_iff`), the subscription, the kind and the
position. -/
theorem axisItemChecked : Obligations.AxisItemChecked := by
  intro s source r
  refine ⟨State.applyAxisItem_invalid, fun valid => ⟨fun foreign => ?foreign, fun own => ⟨fun none => ?none,
    fun i axis only => ?some⟩⟩⟩
  case foreign => exact State.applyAxisItem_foreign valid fun own => foreign ((publisher_eq_iff ..).mp own)
  case none => rw [State.applyAxisItem_published valid ((publisher_eq_iff ..).mpr own), Settings.subscriber_none none]
  case some =>
    rw [State.applyAxisItem_published valid ((publisher_eq_iff ..).mpr own), Settings.subscriber_only axis only]
    refine ⟨fun kind => if_pos kind, fun kind => ⟨fun ring beyond => ?_, fun fits => ?_⟩⟩
    · exact (if_neg (not_not.mpr kind)).trans (if_pos ⟨ring, beyond⟩)
    · refine (if_neg (not_not.mpr kind)).trans (if_neg ?_)
      rintro ⟨ring, beyond⟩
      rcases fits with track | below
      · simp [track] at ring
      · omega

/-! ### What a report makes of its mirror (R105) -/

/-- An axis that stays where it is makes no move (R5). -/
theorem moveOf_self (g : Geometry) (p : Pos) : moveOf g p p = none := if_pos rfl

/-- `s` with mirror `i` ACTIVE as the report has it, before the event is delivered. -/
def State.reported (s : State) (i : Fin 6) (r : AxisReport) : State :=
  s.withMirror i ⟨.active, r.epoch, r.position, r.direction⟩

section Reports

variable {s : State} {i : Fin 6} {r : AxisReport} {mv : Move}

/-- A report of a faulted axis (R110), delivered where the mirror was ACTIVE. -/
theorem State.applyReport_stops (faulted : r.faulted = true) (on : (s.mirrors.get i).state = .active) :
    s.applyReport i r =
      (s.withMirror i { s.mirrors.get i with state := .remoteFault }).stopsBeingActive (mirrorHandle i) :=
  (if_pos faulted).trans (if_pos on)

theorem State.applyReport_silent (faulted : r.faulted = true) (off : (s.mirrors.get i).state ≠ .active) :
    s.applyReport i r = s.withMirror i { s.mirrors.get i with state := .remoteFault } :=
  (if_pos faulted).trans (if_neg off)

/-- A report in another epoch (R109). -/
theorem State.applyReport_epoch (sound : r.faulted = false) (epoch : r.epoch ≠ (s.mirrors.get i).epoch) :
    s.applyReport i r = (s.reported i r).epochChange (mirrorHandle i) :=
  (if_neg (by simp [sound])).trans (if_pos epoch)

/-- In the epoch of the mirror its state decides (R106 to R108). -/
theorem State.applyReport_goes_on (sound : r.faulted = false) (epoch : r.epoch = (s.mirrors.get i).epoch) :
    s.applyReport i r =
      match (s.mirrors.get i).state with
      | .unseen => (s.reported i r).becomesActive (mirrorHandle i)
      | .active =>
        match moveOf (s.cfg.geometry (mirrorHandle i)) (s.mirrors.get i).position r.position with
        | none => s.reported i r
        | some mv =>
          if mv.distance ≤ s.cfg.jumpLimit then (s.reported i r).positionEvent (mirrorHandle i) mv
          else ((s.reported i r).raise .mirrorJump).silentPassage (mirrorHandle i) mv
      | _ =>
        match moveOf (s.cfg.geometry (mirrorHandle i)) (s.mirrors.get i).position r.position with
        | none => (s.reported i r).becomesActive (mirrorHandle i)
        | some mv => ((s.reported i r).becomesActive (mirrorHandle i)).silentPassage (mirrorHandle i) mv := by
  have taken : s.withMirror i ((s.mirrors.get i).takes r) = s.reported i r := by
    rw [State.reported, epoch]
    rfl
  rw [← taken]
  exact (if_neg (by simp [sound])).trans (if_neg (not_not.mpr epoch))

/-- A mirror that recovers where it stood makes no passage (R108). -/
theorem State.applyReport_recovers_there (sound : r.faulted = false) (epoch : r.epoch = (s.mirrors.get i).epoch)
    (lost : (s.mirrors.get i).state = .stale ∨ (s.mirrors.get i).state = .remoteFault)
    (there : r.position = (s.mirrors.get i).position) :
    s.applyReport i r = (s.reported i r).becomesActive (mirrorHandle i) := by
  rw [State.applyReport_goes_on sound epoch, there, moveOf_self]
  rcases lost with stale | fault
  · rw [stale]
  · rw [fault]

/-- One that recovers elsewhere passes there silently, once it is ACTIVE. -/
theorem State.applyReport_recovers (sound : r.faulted = false) (epoch : r.epoch = (s.mirrors.get i).epoch)
    (lost : (s.mirrors.get i).state = .stale ∨ (s.mirrors.get i).state = .remoteFault)
    (move : moveOf (s.cfg.geometry (mirrorHandle i)) (s.mirrors.get i).position r.position = some mv) :
    s.applyReport i r = ((s.reported i r).becomesActive (mirrorHandle i)).silentPassage (mirrorHandle i) mv := by
  rw [State.applyReport_goes_on sound epoch, move]
  rcases lost with stale | fault
  · rw [stale]
  · rw [fault]

end Reports

/-! ### What the events make of the consumers (R9, R10, R38) -/

/-- The blocks once a change to ACTIVE has reached them all but the windows. -/
def Works.activated (w : Works) (env : Env) (h : Handle) : Works :=
  { w with
    queues := w.queues.put h ((w.queues.get h).filter fun e => isAhead e.due (env.position h))
    notices := w.notices.raised env.cfg.noticeMask .missed
      ((w.queues.get h).filter fun e => !isAhead e.due (env.position h)).length }

section Events

variable (w : Works) (env : Env) (h : Handle)

theorem Works.becomesActive_eq : w.becomesActive env h = (w.activated env h).recomputeOn env h := by
  unfold Works.becomesActive Works.queueActive
  rw [Works.removeMissed_eq]
  simp only [Bool.not_not]
  rfl

theorem Works.becomesActive_notices : (w.becomesActive env h).notices = (w.activated env h).notices := by
  rw [Works.becomesActive_eq, Works.recomputeOn_notices]

theorem Works.becomesActive_follow : w.WindowsFollow env h w.outputs (w.becomesActive env h) := by
  rw [Works.becomesActive_eq]
  exact (w.activated env h).recomputeOn_follow env h

theorem Works.stopsBeingActive_follow :
    w.WindowsFollow env h (releasedOn h (fun _ => true) w.outputs) (w.stopsBeingActive env h) := by
  rw [Works.stopsBeingActive_eq]
  exact Works.recomputeOn_follow _ env h

theorem Works.epochChange_notices : (w.epochChange env h).notices = (w.renewed env h).notices := by
  rw [Works.epochChange_eq, Works.recomputeOn_notices]

theorem Works.epochChange_follow :
    w.WindowsFollow env h (releasedOn h (fun _ => true) w.outputs) (w.epochChange env h) := by
  rw [Works.epochChange_eq]
  exact (w.renewed env h).recomputeOn_follow env h

end Events

/-- Settles O39: the branches of R105 one by one (`State.applyReport_stops`, `State.applyReport_epoch`,
`State.applyReport_goes_on`), and each event by what it makes of the blocks before the windows recompute
(`Works.activated`, `Works.renewed`) and what the windows then follow (`Works.WindowsFollow`). -/
theorem reportApplied : Obligations.ReportApplied := by
  refine ⟨fun s i r => ?report, fun _ _ _ => ⟨rfl, rfl⟩, fun s h => ⟨?active, ?lost, ?epoch⟩⟩
  case report =>
    intro m h t taken
    have mirrors : t.mirrors = s.mirrors.put i (m.after r) := s.applyReport_mirrors i r
    refine ⟨s.applyReport_frame i r, fun j ne => ?others, fun faulted => ⟨?fault, fun off => ?silent, fun on => ?stops⟩,
      fun sound => ⟨?takes, State.applyReport_epoch sound, fun epoch => ?same⟩⟩
    case others => rw [mirrors, Bank.get_put_ne _ _ ne.symm]
    case fault => rw [mirrors, Bank.get_put_self, Mirror.after, if_pos faulted]
    case silent => exact (congrArg State.works (State.applyReport_silent faulted off)).trans (State.withMirror_works ..)
    case stops => exact State.applyReport_stops faulted on
    case takes => rw [mirrors, Bank.get_put_self, Mirror.after, if_neg (by simp [sound])]
    case same =>
      have goes : t = _ := State.applyReport_goes_on sound epoch
      refine ⟨fun unseen => ?_, fun active still => ?_, fun active mv move => ?_, fun other => ?_⟩
      · rw [goes, unseen]
        rfl
      · rw [goes, active, still, moveOf_self]
        rfl
      · rw [goes, active, move]
        exact ⟨fun short => if_pos short, fun long => if_neg (by omega)⟩
      · exact ⟨State.applyReport_recovers_there sound epoch other, fun mv => State.applyReport_recovers sound epoch other⟩
  case active =>
    refine ⟨s.works.becomesActive s.env h, rfl, ?_, fun range => ?_, fun k other => ?_, Works.becomesActive_follow ..⟩
    · rw [Works.becomesActive_eq, Works.recomputeOn_eq]
      rfl
    · rw [Works.becomesActive_notices]
      exact Notices.raised_counters_self _ _ .missed _ range
    · rw [Works.becomesActive_notices]
      exact Notices.raised_counters_ne _ _ .missed _ other
  case lost =>
    have follow := s.works.stopsBeingActive_follow s.env h
    refine ⟨s.works.stopsBeingActive s.env h, rfl, ?_, follow, fun off k on => ?_⟩
    · rw [Works.stopsBeingActive_eq, Works.recomputeOn_eq]
    · exact (follow.flag k).trans ((if_pos on).trans (Works.windowFlag_not_active on off))
  case epoch =>
    refine ⟨s.works.epochChange s.env h, rfl, ?_, fun range => ?_, fun k other => ?_, fun k => ?_, fun r => ?_,
      Works.epochChange_follow ..⟩
    · rw [Works.epochChange_eq, Works.recomputeOn_eq]
      rfl
    · rw [Works.epochChange_notices]
      exact Notices.raised_counters_self _ _ .epochDiscard _ range
    · rw [Works.epochChange_notices]
      exact Notices.raised_counters_ne _ _ .epochDiscard _ other
    · rw [Works.epochChange_eq, Works.recomputeOn_sensors]
      exact Bank.get_change ..
    · rw [Works.epochChange_eq, Works.recomputeOn_rings]
      exact Bank.get_change ..

end Sys2Proof.Machine
end

section
/-! The line bus (chapter 7): where frames begin and end, what an own frame leaves when it is aborted, how a station joins the
rotation and how it locks itself out. -/

namespace Sys2Proof.Machine

/-! ### The rows of the bus -/

section Rows

variable (s : State)

theorem exec_startBit (x : BusSample) : exec (.startBit x) s = .next (s.busSample x) := rfl
theorem exec_receiveFrame (bytes : List Byte) :
    exec (.receiveFrame bytes) s = .next (if s.hears then s.frameEnd bytes else s) := rfl
theorem exec_emptyBus : exec .emptyBus s = .next s.emptyBus := rfl
theorem exec_waitExpiry : exec .waitExpiry s = .next s.startFrame := rfl
theorem exec_completion : exec .completion s = .next s.complete := rfl
theorem exec_abort (x : Mismatch) : exec (.abort x) s = .next (s.abortFrame x) := rfl

end Rows

/-! ### Start bits (R117 to R119, R124) -/

section Reception

variable {s : State}

theorem State.not_hears (deaf : ¬s.Hears) : s.hears = false := by
  rwa [← Bool.not_eq_true, State.hears_iff]

theorem State.not_hears_of_low (low : s.bus.rxd = false) : s.hears = false :=
  State.not_hears fun hears => by simp [hears.high] at low

/-- What is being received once a start bit has been heard, by the idle before it and the stop bit of its byte. -/
theorem Bus.startBit_reception (b : Bus) (idle : Nat) (stop : Bool) :
    (b.startBit idle stop).reception =
      if b.reception = .none then
        if 24 * bitClocks b.rate ≤ b.idle + idle * bitClocks b.rate then (if stop then .frame else .corrupt)
        else if b.fresh then .discarded else .corrupt
      else if b.reception = .frame ∧ stop = false then .corrupt
      else b.reception := by
  have early : decide (b.idle + idle * bitClocks b.rate < gapBits * bitClocks b.rate) =
      !decide (24 * bitClocks b.rate ≤ b.idle + idle * bitClocks b.rate) := by
    rw [← decide_not]
    exact decide_eq_decide.mpr Nat.not_le.symm
  simp only [Bus.startBit, early]
  cases b.reception with
  | none =>
    by_cases enough : 24 * bitClocks b.rate ≤ b.idle + idle * bitClocks b.rate
    · cases stop <;> simp [enough, Reception.framingError]
    · cases stop <;> cases b.fresh <;> simp [enough, Reception.framingError]
  | frame => cases stop <;> simp [Reception.framingError]
  | corrupt => cases stop <;> simp [Reception.framingError]
  | discarded => cases stop <;> simp [Reception.framingError]
  | remains => cases stop <;> simp [Reception.framingError]

/-- A start bit ends the idle count and the wait, and begins a byte. -/
theorem Bus.startBit_eq (b : Bus) (idle : Nat) (stop : Bool) :
    b.startBit idle stop = { b with
      idle := 0, byteLeft := 10 * bitClocks b.rate, wait := none, fresh := false, rxd := stop
      reception := (b.startBit idle stop).reception } := rfl

theorem State.busSample_start (hears : s.Hears) (idle : Nat) (stop : Bool) :
    s.busSample (.start idle stop) = s.withBus (s.bus.startBit idle stop) :=
  if_pos (s.hears_iff.mpr hears)

theorem State.busSample_start_deaf (deaf : s.hears = false) (idle : Nat) (stop : Bool) :
    s.busSample (.start idle stop) = s := if_neg (by simp [deaf])

/-- The level that BUS_RXD takes while the receiver looks for no start bit is followed alone. -/
theorem State.busSample_level_followed {level : Bool} (none : level = true ∨ ¬s.Hears) :
    s.busSample (.level level) = s.withBus { s.bus with rxd := level } := by
  refine congrArg s.withBus (if_neg ?_)
  rintro ⟨hears, low⟩
  rcases none with high | deaf
  · simp [high] at low
  · exact deaf (s.hears_iff.mp hears)

/-- A level that stays at 0 is a start bit (R118). -/
theorem State.busSample_level_low (hears : s.Hears) : s.busSample (.level false) = s.busSample (.start 0 false) := by
  rw [State.busSample_start hears]
  exact congrArg s.withBus (if_pos ⟨s.hears_iff.mpr hears, rfl⟩)

/-! ### Frame ends (R119 to R122) -/

theorem State.frame_received (hears : s.Hears) (bytes : List Byte) :
    exec (.receiveFrame bytes) s = .next (s.frameEnd bytes) :=
  congrArg _ (if_pos (s.hears_iff.mpr hears))

theorem State.frame_ended_by_idle (hears : s.Hears) : exec .frameEndByIdle s = .next s.idleEnd :=
  congrArg _ (if_pos (s.hears_iff.mpr hears))

/-- A corrupt frame counts as BAD_FRAME and leaves no anchor. -/
theorem State.corruptFrame_eq (s : State) (idle : Nat) :
    s.corruptFrame idle = { s with
      works := { s.works with notices := s.works.notices.raise s.cfg.noticeMask .badFrame }
      bus := s.bus.afterFrame none idle } := by
  rw [← Bus.frameEnded_eq]; rfl

/-- One that is not judged leaves no anchor, and does not count. -/
theorem State.unjudgedFrame_eq (s : State) (idle : Nat) :
    s.unjudgedFrame idle = { s with bus := s.bus.afterFrame none idle } := by
  rw [← Bus.frameEnded_eq]; rfl

theorem State.frameEnd_unjudged (unjudged : s.bus.reception = .discarded ∨ s.bus.reception = .remains) (bytes : List Byte) :
    s.frameEnd bytes = s.unjudgedFrame 0 := by
  unfold State.frameEnd
  rcases unjudged with e | e <;> rw [e]

theorem State.frameEnd_corrupt (corrupt : s.bus.reception = .corrupt) (bytes : List Byte) :
    s.frameEnd bytes = s.corruptFrame 0 := by
  unfold State.frameEnd
  rw [corrupt]

/-- A frame delimited by its length is judged as it is cut; what follows it is a gap violation. -/
theorem State.frameEnd_judged (judged : s.bus.reception = .none ∨ s.bus.reception = .frame) {bytes frame more : List Byte}
    (cut : cutFrame bytes = (frame, more)) :
    s.frameEnd bytes =
      if more = [] then s.judgeFrame frame else (s.judgeFrame frame).withBus (s.judgeFrame frame).bus.gapViolation := by
  unfold State.frameEnd
  rcases judged with e | e <;> rw [e] <;> simp [cut]

/-- A valid frame ends where its bytes do. -/
theorem State.frameEnd_valid (judged : s.bus.reception = .none ∨ s.bus.reception = .frame) {bytes : List Byte} {f : Frame}
    (valid : judge bytes = some f) :
    s.frameEnd bytes = if f.source = s.bus.number then s.ownNumberFrame else s.acceptFrame f := by
  rw [State.frameEnd_judged judged (cutFrame_of_judge valid), if_pos rfl, State.judgeFrame, valid]

theorem State.judgeFrame_corrupt (s : State) {bytes : List Byte} (corrupt : judge bytes = none) :
    s.judgeFrame bytes = s.corruptFrame 0 := by
  rw [State.judgeFrame, corrupt]

/-- The idle that a frame end by idle leaves counted: more than 12 bit times. -/
def Bus.idleAtEnd (b : Bus) : Nat :=
  if b.reception = .none then 12 * bitClocks b.rate + 1 else max b.idle (12 * bitClocks b.rate + 1)

theorem State.idleEnd_unjudged (unjudged : s.bus.reception = .discarded ∨ s.bus.reception = .remains) :
    s.idleEnd = s.unjudgedFrame s.bus.idleAtEnd := by
  unfold State.idleEnd Bus.idleAtEnd
  rcases unjudged with e | e <;> rw [e] <;> rfl

theorem State.idleEnd_corrupt (kept : s.bus.reception ≠ .discarded) (own : s.bus.reception ≠ .remains) :
    s.idleEnd = s.corruptFrame s.bus.idleAtEnd := by
  unfold State.idleEnd Bus.idleAtEnd
  cases e : s.bus.reception with
  | none => rfl
  | frame => rfl
  | corrupt => rfl
  | discarded => exact absurd e kept
  | remains => exact absurd e own

end Reception

/-- Settles O26: a start bit by `Bus.startBit_reception`, a frame end by what is being received and, for a frame delimited by its
length, by where its bytes are cut. -/
theorem receptionBeginsAndEnds : Obligations.ReceptionBeginsAndEnds := by
  refine ⟨fun s idle stop hears => ?begins, fun s level => ⟨rfl, fun none => ?follows⟩, fun s hears => ?low,
    fun s low => ?held, fun s bytes hears => ⟨?bad, fun unjudged => ⟨?unjudged, ?unjudgedIdle⟩, fun kept own => ?idle⟩,
    fun s h1 h2 l rest more hears judged short whole follows => ?gap⟩
  case begins =>
    rw [exec_startBit, State.busSample_start hears, Bus.startBit_eq, Bus.startBit_reception]
    rfl
  case follows => exact congrArg _ (State.busSample_level_followed none)
  case low => exact ⟨_, rfl, congrArg _ (State.busSample_level_low hears).symm⟩
  case held =>
    have deaf := State.not_hears_of_low low
    refine ⟨fun idle stop => ?_, fun bytes => ?_, ?_, ?_, ?_⟩
    · rw [exec_startBit, State.busSample_start_deaf deaf]
    · rw [exec_receiveFrame, if_neg (by simp [deaf])]
    · rw [exec_frameEndByIdle, if_neg (by simp [deaf])]
    · rw [exec_emptyBus, State.emptyBus, if_neg (by simp [deaf])]
    · rw [exec_waitExpiry, State.startFrame, if_neg (by simp [low])]
  case bad =>
    rintro (corrupt | ⟨judged, bad, whole⟩)
    · rw [State.frame_received hears, State.frameEnd_corrupt corrupt, State.corruptFrame_eq]
    · rw [State.frame_received hears, State.frameEnd_judged judged (cutFrame_whole whole), if_pos rfl,
        State.judgeFrame_corrupt s bad, State.corruptFrame_eq]
  case unjudged => rw [State.frame_received hears, State.frameEnd_unjudged unjudged, State.unjudgedFrame_eq]
  case unjudgedIdle =>
    rw [State.frame_ended_by_idle hears, State.idleEnd_unjudged unjudged, State.unjudgedFrame_eq]
    rfl
  case idle =>
    rw [State.frame_ended_by_idle hears, State.idleEnd_corrupt kept own, State.corruptFrame_eq]
    rfl
  case gap =>
    have alone : s.frameEnd (0xC3 :: h1 :: h2 :: l :: rest) = s.judgeFrame (0xC3 :: h1 :: h2 :: l :: rest) := by
      have cut := cutFrame_exact h1 h2 l rest [] short whole
      rw [List.append_nil] at cut
      exact (State.frameEnd_judged judged cut).trans (if_pos rfl)
    refine ⟨s.judgeFrame (0xC3 :: h1 :: h2 :: l :: rest), ?_, ?_⟩
    · rw [State.frame_received hears, alone]
    · rw [State.frame_received hears]
      exact congrArg _ ((State.frameEnd_judged judged (cutFrame_exact h1 h2 l rest more short whole)).trans
        (if_neg follows))

/-! ### Aborted frames (R126) -/

/-- At a start bit after the lead byte's the remains have ended half a bit time before. -/
theorem Bus.abandon_between {b : Bus} {x : Mismatch} (start : x.bit % 10 = 0) (later : x.bit ≠ 0) :
    b.abandon x =
      { b with flight := none, reception := .remains, idle := bitClocks b.rate / 2, byteLeft := 0, rxd := true } :=
  if_pos ⟨start, later⟩

/-- Otherwise the byte in progress is read to its stop bit. -/
theorem Bus.abandon_within {b : Bus} {x : Mismatch} (inside : x.bit % 10 ≠ 0 ∨ x.bit = 0) :
    b.abandon x =
      { b with
        flight := none, reception := .remains, idle := 0
        byteLeft := (10 - x.bit % 10) * bitClocks b.rate - bitClocks b.rate / 2
        rxd := if x.bit % 10 = 9 then false else x.stop } := by
  have level : (x.stop && decide (x.bit % 10 ≠ 9)) = if x.bit % 10 = 9 then false else x.stop := by
    split <;> simp [*]
  rw [← level]
  exact if_neg fun between => inside.elim (absurd between.1) between.2

theorem State.abortFrame_eq {s : State} (sending : s.bus.flight ≠ none) (x : Mismatch) :
    s.abortFrame x = (s.raise .collision).withBus (s.bus.abandon x) := by
  unfold State.abortFrame
  split
  · rename_i none
    exact absurd none sending
  · rfl

/-- Settles O35, by whether the bit is a start bit after the lead byte's (`Bus.abandon_between`, `Bus.abandon_within`). -/
theorem abortKeepsItems : Obligations.AbortKeepsItems := by
  refine fun s x => ⟨fun none => ?_, fun sending => ⟨fun start later => ?_, fun inside => ?_⟩⟩
  · rw [exec_abort, State.abortFrame, none]
  · rw [exec_abort, State.abortFrame_eq sending, Bus.abandon_between start later]
    rfl
  · rw [exec_abort, State.abortFrame_eq sending, Bus.abandon_within inside]
    rfl

/-! ### Station states (R132, R134, R160) -/

section Station

variable {s : State}

/-- The lines take the condition of the station, whatever has made them what they are. -/
theorem State.linesTake_of_enter {t : State} {lines : Bank Output 8}
    (enters : ∀ q, t.works.outputs.get q = (lines.get q).enter (t.cfg.outputs.get q) t.lineCondition) :
    t.LinesTake lines := by
  have same : t = (t.withWorks { t.works with outputs := lines }).refreshLines := by
    have outputs : t.works.outputs = lines.change fun q o => o.enter (t.cfg.outputs.get q) t.lineCondition :=
      Bank.ext_get fun q => by rw [enters, Bank.get_change]
    calc t = t.withWorks { t.works with outputs := t.works.outputs } := rfl
      _ = _ := by rw [outputs]; rfl
  rw [same]
  exact State.refreshLines_takes _

theorem State.LinesTake.condition {t : State} {lines : Bank Output 8} (takes : t.LinesTake lines) (q : Fin 8) :
    (t.works.outputs.get q).condition = t.lineCondition := by
  obtain ⟨released, forced, normal⟩ := takes q
  rw [State.lineCondition_eq]
  by_cases valid : t.startup.status = .valid
  · cases run : t.run
    · rw [forced valid run]
      split <;> simp [*]
    · rw [normal valid run]
      split <;> simp [*]
  · rw [released valid]
    split <;> simp [*]

/-- The roster once the station has entered a state: its own entry goes with it. -/
theorem State.enterStation_own (s : State) (st : StationState) :
    (s.enterStation st).roster.get (stationIndex s.bus.number) =
      { s.roster.get (stationIndex s.bus.number) with
        state := if st = .rotating then .present else .unknown, missed := 0 } := Bank.get_put_self ..

theorem State.enterStation_other (s : State) (st : StationState) {n : Fin 32} (other : n ≠ stationIndex s.bus.number) :
    (s.enterStation st).roster.get n = s.roster.get n := Bank.get_put_ne _ _ other.symm

/-- A station that joins knows no anchor, and waits G + s × T. -/
theorem State.join_bus (s : State) :
    s.join.bus = { s.bus with
      station := .rotating, anchor := none, joined := [], wait := some ⟨24 + 64 * s.bus.number.toNat, 0⟩ } := by
  have wait : waitBits s.bus.number none = 24 + 64 * s.bus.number.toNat := by
    have := s.bus.number.isLt
    rw [waitBits_eq]
    dsimp only
    omega
  rw [← wait]
  rfl

theorem State.join_roster (s : State) : s.join.roster = (s.enterStation .rotating).roster := rfl

theorem State.join_takes (s : State) : s.join.LinesTake s.works.outputs := State.refreshLines_takes _

/-- A station that is LOCKED_OUT is in HOLD (R164), and asserts FAULT_OUT_N (R100). -/
theorem State.lockOut_run (s : State) : s.lockOut.run = false := rfl

theorem State.lockOut_faultOutN (running : s.held = false) : s.lockOut.faultOutN = false := by
  have asserted : s.lockOut.faultOut = true := rfl
  have held : s.lockOut.held = s.held := rfl
  simp [State.faultOutN, asserted, held, running]

theorem State.lockOut_takes (s : State) : s.lockOut.LinesTake s.works.outputs := State.refreshLines_takes _

/-- Its lines are FORCED, or RELEASED without a valid configuration (R88). -/
theorem State.lockOut_condition (s : State) (q : Fin 8) :
    (s.lockOut.works.outputs.get q).condition = if s.startup.status = .valid then .forced else .released := by
  rw [s.lockOut_takes.condition q, State.lineCondition_eq, s.lockOut_run, ite_not]
  rfl

theorem State.lockOut_own (s : State) : (s.lockOut.roster.get (stationIndex s.bus.number)).state = .unknown :=
  congrArg RosterEntry.state (s.enterStation_own .lockedOut)

theorem State.lockOut_other (s : State) {n : Fin 32} (other : n ≠ stationIndex s.bus.number) :
    s.lockOut.roster.get n = s.roster.get n := s.enterStation_other .lockedOut other

/-- A LISTENING station joins when no frame is being received and the bus has been idle long enough. -/
theorem State.emptyBus_joins (hears : s.Hears) (listening : s.bus.station = .listening) (quiet : s.bus.reception = .none) :
    s.emptyBus = (s.withBus { s.bus with idle := max s.bus.idle (2072 * bitClocks s.bus.rate) }).join :=
  if_pos ⟨s.hears_iff.mpr hears, listening, quiet⟩

end Station

/-- Settles O27: the frame end leaves the anchor, and a station that is not LOCKED_OUT enters that state. -/
theorem duplicateLocksOut : Obligations.DuplicateLocksOut := by
  intro s bytes f hears judged valid own
  have ends : exec (.receiveFrame bytes) s = .next s.ownNumberFrame := by
    rw [State.frame_received hears, State.frameEnd_valid judged valid, if_pos own]
  have anchor : s.ownNumberFrame =
      if s.bus.station = .lockedOut then { s with bus := s.bus.afterFrame (some s.bus.number) 0 }
      else State.lockOut { s with bus := s.bus.afterFrame (some s.bus.number) 0 } := by
    rw [← Bus.frameEnded_eq]; rfl
  refine ⟨fun out => ?stays, fun other => ⟨_, ends, ?locks⟩⟩
  case stays => rw [ends, anchor, if_pos out]
  case locks =>
    rw [anchor, if_neg other]
    refine ⟨rfl, rfl, fun n ne => State.lockOut_other _ ne, State.lockOut_own _, fun h => Bank.get_fill .., rfl, rfl, rfl,
      rfl, rfl, State.lockOut_condition _, State.lockOut_takes _, State.lockOut_run _, State.lockOut_faultOutN hears.running⟩

end Sys2Proof.Machine
end

section
/-! The own frame (sections 8.4 and 8.5): what its items are, how many of the transmit queue it takes, and how BUS_TXD carries it. -/

namespace Sys2Proof.Machine

/-! ### AXIS items (R19, R147) -/

section AxisItems

/-- The first byte of an AXIS body, as a sum. -/
theorem axisByte_eq (faulted ring : Bool) (id : BitVec 6) :
    (bit faulted <<< 7) ||| (bit ring <<< 6) ||| id.zeroExtend 8 =
      BitVec.ofNat 8 ((if faulted then 128 else 0) + (if ring then 64 else 0) + id.toNat) := by
  revert id
  cases faulted <;> cases ring <;> decide

/-- The second. -/
theorem directionByte_eq (d : Option Direction) (epoch : Epoch) :
    (directionCode d <<< 4) ||| epoch.zeroExtend 8 =
      BitVec.ofNat 8 (16 * (match d with
        | none => 0
        | some .fwd => 1
        | some .rev => 2) + epoch.toNat) := by
  revert epoch
  match d with
  | none => decide
  | some .fwd => decide
  | some .rev => decide

theorem ownLineAxis_toNat (number : Station) (i : Fin 2) : (ownLineAxis number i).toNat = 2 * number.toNat + i.val := by
  have hn := number.isLt
  rw [ownLineAxis, BitVec.toNat_ofNat]
  omega

/-- The AXIS item of a local axis, byte by byte: none for an axis that is not published, or OFF. -/
theorem State.axisItem_toList (s : State) (i : Fin 2) :
    (s.axisItem i).toList =
      let x := s.axes.get i
      if (s.cfg.axes.get i).publish = true ∧ x.state ≠ .off then
        [[0x16,
          BitVec.ofNat 8 ((if x.state = .faulted then 128 else 0) + (if (s.cfg.axes.get i).kind = .ring then 64 else 0) +
            (2 * s.bus.number.toNat + i.val)),
          BitVec.ofNat 8 (16 * (match x.lastDirection with
            | none => 0
            | some .fwd => 1
            | some .rev => 2) + x.epoch.toNat)] ++ bytes32 x.position]
      else [] := by
  unfold State.axisItem
  dsimp only
  split
  · simp only [Option.toList_some, axisBody, axisByte_eq, directionByte_eq, ownLineAxis_toNat, decide_eq_true_eq]
    rfl
  · rfl

/-- An AXIS item is seven bytes. -/
theorem State.axisItem_length (s : State) (i : Fin 2) {item : List Byte} (mem : item ∈ (s.axisItem i).toList) :
    item.length = 7 := by
  rw [State.axisItem_toList] at mem
  dsimp only at mem
  split at mem
  · rw [List.mem_singleton.mp mem]; rfl
  · exact absurd mem List.not_mem_nil

end AxisItems

/-! ### The NOTE item (R148) -/

section Notes

variable (x : Notices)

/-- The codes in increasing order whose records are pending. -/
def Notices.pendingCodes : List (Fin 16) := (List.finRange 16).filter fun k => decide (x.pending.get k ≠ 0)

theorem NoticeKind.all_codes : NoticeKind.all.map NoticeKind.code = List.finRange 16 := by decide

/-- The pending kinds, by their codes. -/
theorem Notices.list_codes :
    (x.list.map fun p => (p.1.code, p.2)) = x.pendingCodes.map fun k => (k, x.pending.get k) := by
  rw [Notices.list, Notices.pendingCodes, ← NoticeKind.all_codes, List.filter_map, List.filter_map, List.map_map, List.map_map]
  rfl

theorem State.noteList_codes (s : State) :
    (s.noteList.map fun p => (p.1.code, p.2)) =
      (s.works.notices.pendingCodes.take 7).map fun k => (k, s.works.notices.pending.get k) := by
  rw [State.noteList, List.map_take, Notices.list_codes, List.map_take]

/-- The NOTE body is given by the codes and the counts. -/
theorem noteBody_eq (l : List (NoticeKind × Nat)) :
    noteBody l = (l.map fun p => (p.1.code, p.2)).flatMap fun p => [BitVec.ofNat 8 p.1.val, BitVec.ofNat 8 p.2] := by
  rw [List.flatMap_map]
  rfl

theorem noteBody_length (l : List (NoticeKind × Nat)) : (noteBody l).length = 2 * l.length := by
  induction l with
  | nil => rfl
  | cons p l ih =>
    simp only [noteBody, List.flatMap_cons, List.length_append, List.length_cons] at ih ⊢
    rw [ih, List.length_nil]
    omega

/-- The NOTE item, byte by byte: none while no record is pending. -/
theorem State.noteItems_eq (s : State) :
    s.noteItems =
      let kinds := s.works.notices.pendingCodes.take 7
      if kinds = [] then []
      else [BitVec.ofNat 8 (80 + 2 * kinds.length) :: kinds.flatMap fun k =>
        [BitVec.ofNat 8 k.val, BitVec.ofNat 8 (s.works.notices.pending.get k)]] := by
  have codes := s.noteList_codes
  have length : s.noteList.length = (s.works.notices.pendingCodes.take 7).length := by
    simpa only [List.length_map] using congrArg List.length codes
  have body := noteBody_length s.noteList
  have bytes := noteBody_eq s.noteList
  rw [codes, List.flatMap_map] at bytes
  unfold State.noteItems
  dsimp only
  split
  · rename_i none
    rw [none] at length
    rw [if_pos (List.eq_nil_of_length_eq_zero length.symm)]
  · rename_i some
    rw [if_neg fun none => some (List.eq_nil_of_length_eq_zero (by rw [length, none]; rfl)), itemBytes, body, length, bytes]

/-- It takes at most fifteen bytes. -/
theorem State.noteItems_length (s : State) : s.noteItems.length ≤ 1 ∧ s.noteItems.flatten.length ≤ 15 := by
  have seven : s.noteList.length ≤ 7 := List.length_take_le ..
  have body := noteBody_length s.noteList
  unfold State.noteItems
  split
  · exact ⟨Nat.zero_le _, Nat.zero_le _⟩
  · simp only [List.flatten_singleton, itemBytes, List.length_cons, List.length_nil]
    omega

end Notes

/-! ### What leads the items of the transmit queue -/

/-- The AXIS items of the own frame: none without a valid configuration. -/
theorem State.axisItems_length (s : State) : s.axisItems.length ≤ 2 ∧ s.axisItems.flatten.length ≤ 14 := by
  have one (i : Fin 2) : (s.axisItem i).toList.length ≤ 1 ∧ (s.axisItem i).toList.flatten.length ≤ 7 := by
    have length := @State.axisItem_length s i
    cases item : s.axisItem i with
    | none => simp
    | some bytes =>
      rw [item] at length
      simp [length (List.mem_singleton_self bytes)]
  have first := one 0
  have second := one 1
  unfold State.axisItems
  split
  · simp only [List.length_append, List.flatten_append]
    omega
  · exact ⟨Nat.zero_le _, Nat.zero_le _⟩

/-! ### Items from the transmit queue (R145, R147) -/

/-- The bytes that items of the transmit queue take in a frame. -/
def txBytes (l : List TxItem) : List Byte := (l.map TxItem.bytes).flatten

theorem txBytes_cons (i : TxItem) (l : List TxItem) : txBytes (i :: l) = i.bytes ++ txBytes l := rfl

/-- The items taken fit into the frame, and with the next one it would hold more than 8 items or 120 bytes. -/
theorem takeItems_fits (count size : Nat) (l : List TxItem) (few : count ≤ 8) (short : size ≤ 120) :
    let n := takeItems count size l
    count + n ≤ 8 ∧ n ≤ l.length ∧ size + (txBytes (l.take n)).length ≤ 120 ∧
      (n < l.length → 8 < count + n + 1 ∨ 120 < size + (txBytes (l.take (n + 1))).length) := by
  induction l generalizing count size with
  | nil => exact ⟨few, Nat.le_refl 0, short, nofun⟩
  | cons i rest ih =>
    unfold takeItems
    split
    · rename_i fits
      obtain ⟨items, within, bytes, next⟩ := ih (count + 1) (size + i.bytes.length) fits.1 fits.2
      simp only [List.take_succ_cons, txBytes_cons, List.length_append, List.length_cons] at bytes next ⊢
      refine ⟨by omega, by omega, by omega, fun more => ?_⟩
      have := next (by omega)
      omega
    · rename_i full
      have next : txBytes ((i :: rest).take 1) = i.bytes := List.append_nil _
      refine ⟨few, Nat.zero_le _, short, fun _ => ?_⟩
      rw [Nat.zero_add, next]
      omega

/-! ### The wire (R117) -/

theorem wireByte_length (b : Byte) : (wireByte b).length = 10 := by simp [wireByte]

/-- A start bit 0, the bits of the byte from the lowest on, a stop bit 1. -/
theorem wireByte_getD (b : Byte) {k : Nat} (inside : k < 10) :
    (wireByte b).getD k true = if k = 0 then false else if k = 9 then true else b.getLsbD (k - 1) := by
  match k with
  | 0 => rfl
  | k + 1 =>
    rw [if_neg (Nat.succ_ne_zero k), Nat.add_sub_cancel]
    by_cases last : k + 1 = 9
    · obtain rfl : k = 8 := by omega
      rfl
    · have within : k < 8 := by omega
      rw [if_neg last, wireByte, List.cons_append, List.getD_cons_succ, List.getD_append _ _ _ _ (by simpa using within)]
      simp [within]

theorem wireBits_getD (l : List Byte) (n : Nat) :
    (wireBits l).getD n true = (match l[n / 10]? with
      | some b => if n % 10 = 0 then false else if n % 10 = 9 then true else b.getLsbD (n % 10 - 1)
      | none => true) := by
  rw [wireBits, getD_flatMap wireByte 10 (by omega) wireByte_length]
  cases l[n / 10]? with
  | none => rfl
  | some b => exact wireByte_getD b (Nat.mod_lt n (by omega))

/-! ### The frame begins (R123, R125) -/

section Starts

variable {s : State}

theorem State.startFrame_starts (rotating : s.bus.station = .rotating) (waits : s.bus.wait ≠ none)
    (silent : s.bus.flight = none) (high : s.bus.rxd = true) :
    s.startFrame = { s with bus := { s.bus with wait := none, flight := some s.assemble } } :=
  if_pos ⟨rotating, Option.isSome_iff_ne_none.mpr waits, silent, high⟩

theorem State.startFrame_stays
    (none : s.bus.station ≠ .rotating ∨ s.bus.wait = none ∨ s.bus.flight ≠ none ∨ s.bus.rxd = false) : s.startFrame = s := by
  refine if_neg fun ⟨rotating, waits, silent, high⟩ => ?_
  rcases none with other | idle | sending | low
  · exact other rotating
  · simp [idle] at waits
  · exact sending silent
  · simp [low] at high

end Starts

/-- Settles O31: the frame is that of `State.assemble`, whose parts are `State.axisItem_toList`, `State.noteItems_eq` and
`takeItems_fits`. -/
theorem waitExpiryStartsFrame : Obligations.WaitExpiryStartsFrame := by
  refine ⟨fun s => ?frame, fun s f sending => ⟨?driven, fun n => ?bits⟩, fun s silent => ⟨?released, fun n => ?high⟩⟩
  case frame =>
    intro axisOf kinds lead
    have items : lead = s.axisItems ++ s.noteItems := by
      rw [State.noteItems_eq, State.axisItems, State.axisItem_toList, State.axisItem_toList]
      simp only [State.valid, decide_eq_true_eq]
      rfl
    clear_value lead
    refine ⟨fun rotating waits silent high => ?_, fun none => congrArg _ (State.startFrame_stays none)⟩
    have axes := s.axisItems_length
    have notes := s.noteItems_length
    have count : lead.length ≤ 8 := by rw [items, List.length_append]; omega
    have size : lead.flatten.length ≤ 120 := by rw [items, List.flatten_append, List.length_append]; omega
    obtain ⟨few, within, bytes, next⟩ := takeItems_fits lead.length lead.flatten.length s.works.txQueue count size
    refine ⟨s.assemble, takeItems lead.length lead.flatten.length s.works.txQueue,
      congrArg _ (State.startFrame_starts rotating waits silent high), by rw [items]; rfl, s.noteList_codes,
      by rw [items]; rfl, few, within, ?_, ?_⟩
    · rwa [List.flatten_append, List.length_append]
    · rwa [List.flatten_append, List.length_append]
  case driven => rw [State.busDE, sending]; rfl
  case bits => rw [State.busTXD, sending]; exact wireBits_getD f.bytes n
  case released => rw [State.busDE, silent]; rfl
  case high => rw [State.busTXD, silent]

end Sys2Proof.Machine
end

section
/-! What an axis that is lost makes of the windows and the lines (R80, R81, R96, R99), however many axes are lost and whatever
conditions the lines come under on the way. -/

namespace Sys2Proof.Machine

/-! ### One line -/

section Conditions

variable {o : Output} {set : OutputSettings} {c c' : Condition}

/-- A line already under the condition is not changed. -/
theorem Output.enter_same (same : o.condition = c) : o.enter set c = o := if_pos same

theorem Output.enter_released (other : o.condition ≠ .released) :
    o.enter set .released = ⟨.released, false, .idle, o.followed⟩ := if_neg other

theorem Output.enter_forced (other : o.condition ≠ .forced) :
    o.enter set .forced = ⟨.forced, set.safe, .idle, o.followed⟩ := if_neg other

/-- A line that comes under a condition ends its pulse (R89, R90). -/
theorem Output.enter_pulse (other : o.condition ≠ c) : (o.enter set c).pulse = .idle := by
  cases c <;> simp [Output.enter, other]

/-- A line that leaves RELEASED or FORCED for another condition, and comes back, is as it was. -/
theorem Output.enter_back (shows : o.Shows set) (other : o.condition ≠ c) (back : o.condition = c')
    (dark : o.condition ≠ .normal) : (o.enter set c).enter set c' = o := by
  obtain ⟨released, forced, -⟩ := shows
  have turns : (o.enter set c).condition ≠ c' := by rw [Output.enter_condition]; exact fun e => other (back.trans e.symm)
  have followed : (o.enter set c).followed = o.followed := by cases c <;> simp [Output.enter, other]
  cases c' with
  | normal => exact absurd back dark
  | released =>
    obtain ⟨level, pulse⟩ := released back
    rw [Output.enter_released turns, followed, ← back, ← level, ← pulse]
  | forced =>
    obtain ⟨level, pulse⟩ := forced back
    rw [Output.enter_forced turns, followed, ← back, ← level, ← pulse]

end Conditions

section Line

variable (o : Output) (set : OutputSettings) (c : Condition) (lost lost' : Handle → Bool)

/-- A distance pulse runs on a lost handle. -/
def Output.runsOn (o : Output) (lost : Handle → Bool) : Bool :=
  match o.pulse with
  | .distance h _ => lost h
  | _ => false

/-- A line whose distance pulse is on a lost handle: level 0, pulse IDLE (R96). -/
def Output.losesAxis (o : Output) (lost : Handle → Bool) : Output :=
  if o.runsOn lost then { o with level := false, pulse := .idle } else o

/-- A WINDOW line that is handed a flag of 0, when the flag it follows was 1 (R99). -/
def Output.losesFlag (o : Output) (dark : Bool) : Output :=
  if dark then { o with followed := false, level := if o.condition = .normal then false else o.level } else o

theorem Output.losesAxis_eq :
    o.losesAxis lost = match o.pulse with
      | .distance h _ => if lost h then { o with level := false, pulse := .idle } else o
      | _ => o := by
  unfold Output.losesAxis Output.runsOn
  cases o.pulse <;> rfl

theorem Output.losesAxis_condition : (o.losesAxis lost).condition = o.condition := by
  unfold Output.losesAxis
  split <;> rfl

theorem Output.losesFlag_condition (dark : Bool) : (o.losesFlag dark).condition = o.condition := by
  unfold Output.losesFlag
  split <;> rfl

theorem Output.losesFlag_runsOn (dark : Bool) : (o.losesFlag dark).runsOn lost = o.runsOn lost := by
  unfold Output.losesFlag
  split <;> rfl

theorem Output.runsOn_or : o.runsOn (fun h => lost' h || lost h) = (o.runsOn lost' || o.runsOn lost) := by
  unfold Output.runsOn
  cases o.pulse <;> rfl

/-- An ended pulse runs on no handle. -/
theorem Output.runsOn_idle (idle : o.pulse = .idle) : o.runsOn lost = false := by
  rw [Output.runsOn, idle]

/-- Two losses of axes are one. -/
theorem Output.losesAxis_losesAxis :
    (o.losesAxis lost).losesAxis lost' = o.losesAxis fun h => lost' h || lost h := by
  unfold Output.losesAxis
  rw [Output.runsOn_or]
  cases first : o.runsOn lost with
  | false => simp
  | true => simp [Output.runsOn_idle]

/-- Two losses of a flag are one. -/
theorem Output.losesFlag_losesFlag (dark dark' : Bool) :
    (o.losesFlag dark).losesFlag dark' = o.losesFlag (dark' || dark) := by
  unfold Output.losesFlag
  cases dark <;> cases dark' <;> simp

/-- The loss of an axis and that of a flag meet in either order. -/
theorem Output.losesFlag_losesAxis (dark : Bool) :
    (o.losesFlag dark).losesAxis lost = (o.losesAxis lost).losesFlag dark := by
  unfold Output.losesAxis
  rw [Output.losesFlag_runsOn]
  cases o.runsOn lost <;> cases dark <;> simp [Output.losesFlag]

/-- A line under another condition than before has no pulse to lose. -/
theorem Output.enter_losesAxis : (o.enter set c).losesAxis lost = (o.losesAxis lost).enter set c := by
  by_cases same : o.condition = c
  · rw [Output.enter_same same, Output.enter_same ((o.losesAxis_condition lost).trans same)]
  · have entered : (o.enter set c).runsOn lost = false := Output.runsOn_idle _ _ (Output.enter_pulse same)
    rw [Output.losesAxis, entered, Output.losesAxis]
    cases o.runsOn lost with
    | false => rfl
    | true => cases c <;> simp [Output.enter, same]

/-- A WINDOW line shows the flag it follows in NORMAL, whenever it came to it. -/
theorem Output.enter_losesFlag {dark : Bool} (window : dark = true → set.mode = .window) :
    (o.enter set c).losesFlag dark = (o.losesFlag dark).enter set c := by
  cases dark with
  | false => rfl
  | true =>
    by_cases same : o.condition = c
    · rw [Output.enter_same same, Output.enter_same ((o.losesFlag_condition true).trans same)]
    · cases c <;> simp [Output.enter, Output.losesFlag, same, window rfl]

/-- A condition that a line comes under on the way leaves no trace, unless the line was in NORMAL and is again. -/
theorem Output.enter_enter {o : Output} {set : OutputSettings} {c c' : Condition} (shows : o.Shows set)
    (trace : o.condition = .normal → c = .normal ∨ c' ≠ .normal) : (o.enter set c).enter set c' = o.enter set c' := by
  by_cases through : o.condition = c
  · rw [Output.enter_same through]
  by_cases there : c = c'
  · rw [← there, Output.enter_same (Output.enter_condition c)]
  by_cases back : o.condition = c'
  · rw [Output.enter_same back]
    exact Output.enter_back shows through back fun normal => (trace normal).elim (fun e => through (normal.trans e.symm))
      fun other => other (back.symm.trans normal)
  · cases c <;> cases c' <;> simp_all [Output.enter]

/-- A line goes on to show what its condition allows. -/
theorem Output.losesAxis_keeps : o.Keeps set (o.losesAxis lost) := by
  unfold Output.losesAxis
  split
  · rename_i runs
    exact Output.keeps_of_pulse rfl fun idle => by simp [o.runsOn_idle lost idle] at runs
  · exact .refl o

theorem Output.losesFlag_keeps {dark : Bool} (window : dark = true → set.mode = .window) : o.Keeps set (o.losesFlag dark) := by
  unfold Output.losesFlag
  split
  · rename_i flag
    exact Output.keeps_flag (window flag) false
  · exact .refl o

end Line

/-! ### The windows and the lines -/

section Blocks

variable (w : Works) (cfg : Settings) (lost lost' : Handle → Bool)

/-- A window on a lost handle reads 0 (R80). -/
def Works.windowAfter (k : Fin 8) : Window :=
  if (cfg.windows.get k).handle.any lost then { w.windows.get k with flag := false } else w.windows.get k

/-- The line follows a window whose flag was 1 and whose handle is lost. -/
def Works.darkens (q : Fin 8) : Bool :=
  decide ((cfg.outputs.get q).mode = .window) && (cfg.outputs.get q).followed.any fun k =>
    (w.windows.get k).flag && (cfg.windows.get k).handle.any lost

/-- A line after the loss. -/
def Works.lineAfter (q : Fin 8) : Output := ((w.outputs.get q).losesAxis lost).losesFlag (w.darkens cfg lost q)

theorem Works.darkens_window {q : Fin 8} (dark : w.darkens cfg lost q = true) : (cfg.outputs.get q).mode = .window := by
  simp only [Works.darkens, Bool.and_eq_true, decide_eq_true_eq] at dark
  exact dark.1

theorem Works.lineAfter_keeps (q : Fin 8) : (w.outputs.get q).Keeps (cfg.outputs.get q) (w.lineAfter cfg lost q) :=
  (Output.losesAxis_keeps _ _ _).trans (Output.losesFlag_keeps _ _ (w.darkens_window cfg lost))

/-- What has lost nothing is as it was. -/
theorem Works.windowAfter_none (k : Fin 8) : w.windowAfter cfg (fun _ => false) k = w.windows.get k :=
  if_neg (by simp)

theorem Works.lineAfter_none (q : Fin 8) : w.lineAfter cfg (fun _ => false) q = w.outputs.get q := by
  have lit : w.darkens cfg (fun _ => false) q = false := by simp [Works.darkens]
  have kept : (w.outputs.get q).losesAxis (fun _ => false) = w.outputs.get q := by
    rw [Output.losesAxis_eq]
    split <;> rfl
  rw [Works.lineAfter, lit, kept]
  rfl

variable {w cfg lost} {w' : Works}

/-- The second loss finds the windows as the first left them. -/
theorem Works.windowAfter_windowAfter (windows : ∀ k, w'.windows.get k = w.windowAfter cfg lost k) (k : Fin 8) :
    w'.windowAfter cfg lost' k = w.windowAfter cfg (fun h => lost' h || lost h) k := by
  have flags := windows k
  unfold Works.windowAfter at flags ⊢
  rw [flags]
  cases (cfg.windows.get k).handle with
  | none => rfl
  | some h => by_cases first : lost h = true <;> by_cases second : lost' h = true <;> simp [first, second]

theorem Works.darkens_darkens (windows : ∀ k, w'.windows.get k = w.windowAfter cfg lost k) (q : Fin 8) :
    (w'.darkens cfg lost' q || w.darkens cfg lost q) = w.darkens cfg (fun h => lost' h || lost h) q := by
  unfold Works.darkens
  cases (cfg.outputs.get q).followed with
  | none => simp
  | some k =>
    simp only [Option.any_some, windows, Works.windowAfter]
    cases (cfg.windows.get k).handle with
    | none => simp
    | some h => by_cases first : lost h = true <;> cases lit : (w.windows.get k).flag <;> simp [first, lit]

/-- And the lines, whatever condition they came under between. -/
theorem Works.lineAfter_lineAfter {c : Condition} (windows : ∀ k, w'.windows.get k = w.windowAfter cfg lost k) {q : Fin 8}
    (line : w'.outputs.get q = (w.lineAfter cfg lost q).enter (cfg.outputs.get q) c) :
    w'.lineAfter cfg lost' q = (w.lineAfter cfg (fun h => lost' h || lost h) q).enter (cfg.outputs.get q) c := by
  unfold Works.lineAfter at line ⊢
  rw [line, Output.enter_losesAxis, Output.losesFlag_losesAxis, Output.losesAxis_losesAxis,
    Output.enter_losesFlag _ _ _ (w'.darkens_window cfg lost'), Output.losesFlag_losesFlag, Works.darkens_darkens lost' windows]

end Blocks

/-! ### One handle whose axis stops being ACTIVE (R10) -/

section Stops

variable (w : Works) {env : Env} {h : Handle}

/-- The handles that are `h`. -/
def onlyHandle (h h' : Handle) : Bool := decide (h = h')

theorem releasedOn_losesAxis (h : Handle) (lines : Bank Output 8) (q : Fin 8) :
    (releasedOn h (fun _ => true) lines).get q = (lines.get q).losesAxis (onlyHandle h) := by
  rw [releasedOn, Bank.get_tabulate, Output.losesAxis_eq]
  cases (lines.get q).pulse with
  | idle => rfl
  | timed remaining gone => rfl
  | distance h' release => simp [onlyHandle, eq_comm]

theorem any_onlyHandle (x : Option Handle) : x.any (onlyHandle h) = true ↔ x = some h := by
  cases x <;> simp [onlyHandle, eq_comm]

theorem Works.stopsBeingActive_windows (off : env.active h = false) (k : Fin 8) :
    (w.stopsBeingActive env h).windows.get k = w.windowAfter env.cfg (onlyHandle h) k := by
  obtain ⟨windows, -⟩ := w.stopsBeingActive_follow env h
  rw [windows, Works.windowAfter]
  by_cases on : (env.cfg.windows.get k).handle = some h
  · rw [if_pos on, if_pos ((any_onlyHandle _).mpr on), Works.windowFlag_not_active on off]
  · rw [if_neg on, if_neg fun any => on ((any_onlyHandle _).mp any)]

theorem Works.stopsBeingActive_outputs (off : env.active h = false) (q : Fin 8) :
    (w.stopsBeingActive env h).outputs.get q = w.lineAfter env.cfg (onlyHandle h) q := by
  obtain ⟨-, lines⟩ := w.stopsBeingActive_follow env h
  obtain ⟨stay, follow⟩ := lines q
  rw [Works.lineAfter, ← releasedOn_losesAxis]
  cases dark : w.darkens env.cfg (onlyHandle h) q with
  | false =>
    refine stay fun k ⟨window, followed, on, changed⟩ => ?_
    rw [Works.windowFlag_not_active on off] at changed
    simp [Works.darkens, window, followed, (any_onlyHandle _).mpr on, Ne.symm changed] at dark
  | true =>
    simp only [Works.darkens, Bool.and_eq_true, decide_eq_true_eq, Option.any_eq_true] at dark
    obtain ⟨window, k, followed, lit, h', on, same⟩ := dark
    obtain rfl : h = h' := by simpa [onlyHandle] using same
    have reads := Works.windowFlag_not_active (w := w) on off
    rw [follow k ⟨window, followed, on, by simp [reads, lit]⟩, reads]
    rfl

end Stops

end Sys2Proof.Machine
end

section
/-! What mirrors that go STALE and stations that are missed leave of the station (R111, R158, R159): the parts they reach, the
notices they raise, and the windows and lines, traced from a state before them (`State.Fading`). -/

namespace Sys2Proof.Machine

/-! ### What a loss does not reach -/

/-- From `s` to `t` only the roster, the mirrors, the windows, the lines and the notices MIRROR_STALE and STATION_LOST change. -/
structure State.LossOnly (s t : State) : Prop where
  frame : t = { s with
    roster := t.roster, mirrors := t.mirrors
    works := { s.works with notices := t.works.notices, windows := t.works.windows, outputs := t.works.outputs } }
  counters : ∀ k, k ≠ 11 → k ≠ 13 → t.works.notices.counters.get k = s.works.notices.counters.get k
  pending : ∀ k : NoticeKind, k ≠ .stationLost → k ≠ .mirrorStale →
    t.works.notices.pending.get k.code = s.works.notices.pending.get k.code

section

variable {s t u : State}

theorem State.LossOnly.refl (s : State) : s.LossOnly s := ⟨rfl, fun _ _ _ => rfl, fun _ _ _ => rfl⟩

theorem State.LossOnly.trans (a : s.LossOnly t) (b : t.LossOnly u) : s.LossOnly u :=
  ⟨by rw [b.frame, a.frame], fun k x y => (b.counters k x y).trans (a.counters k x y),
    fun k x y => (b.pending k x y).trans (a.pending k x y)⟩

theorem State.LossOnly.foldl {α : Type} {f : State → α → State} (one : ∀ (s : State) (x : α), s.LossOnly (f s x))
    (l : List α) (s : State) : s.LossOnly (l.foldl f s) :=
  foldl_frame f State.LossOnly .refl (fun _ _ _ a b => a.trans b) one l s

theorem NoticeKind.code_injective : Function.Injective NoticeKind.code := by
  intro j k
  cases j <;> cases k <;> decide

/-- A raising leaves every other record. -/
theorem Notices.raise_pending_ne (x : Notices) (mask : BitVec 16) {j k : NoticeKind} (other : j ≠ k) :
    (x.raise mask k).pending.get j.code = x.pending.get j.code := by
  unfold Notices.raise
  dsimp only
  split
  · exact Bank.get_put_ne _ _ fun same => other (NoticeKind.code_injective same).symm
  · rfl

theorem State.raise_lossOnly (s : State) {k : NoticeKind} (loss : k = .stationLost ∨ k = .mirrorStale) :
    s.LossOnly (s.raise k) := by
  refine ⟨rfl, fun j stale lost => ?_, fun j lost stale => ?_⟩
  · refine (Notices.raise_counters ..).trans (if_neg ?_)
    rcases loss with rfl | rfl
    · exact lost.symm
    · exact stale.symm
  · refine Notices.raise_pending_ne _ _ ?_
    rcases loss with rfl | rfl
    · exact lost
    · exact stale

theorem State.withEntry_lossOnly (s : State) (n : Fin 32) (e : RosterEntry) : s.LossOnly (s.withEntry n e) :=
  ⟨rfl, fun _ _ _ => rfl, fun _ _ _ => rfl⟩

theorem State.refreshLines_lossOnly (s : State) : s.LossOnly s.refreshLines := ⟨rfl, fun _ _ _ => rfl, fun _ _ _ => rfl⟩

theorem Works.stopsBeingActive_notices (w : Works) (env : Env) (h : Handle) : (w.stopsBeingActive env h).notices = w.notices := by
  rw [Works.stopsBeingActive_eq, Works.recomputeOn_notices]

theorem State.stopsBeingActive_lossOnly (s : State) (h : Handle) : s.LossOnly (s.stopsBeingActive h) := by
  have frame := s.works.stopsBeingActive_frame s.env h
  refine ⟨?_, fun k _ _ => ?_, fun k _ _ => ?_⟩
  · rw [State.stopsBeingActive, frame]
    rfl
  · rw [State.stopsBeingActive, State.withWorks_works, Works.stopsBeingActive_notices]
  · rw [State.stopsBeingActive, State.withWorks_works, Works.stopsBeingActive_notices]

theorem State.staleMirror_lossOnly (s : State) (i : Fin 6) : s.LossOnly (s.staleMirror i) := by
  unfold State.staleMirror
  dsimp only
  split
  · have mirror (m : Mirror) : s.LossOnly (s.withMirror i m) := ⟨rfl, fun _ _ _ => rfl, fun _ _ _ => rfl⟩
    exact (mirror _).trans ((State.raise_lossOnly _ (.inr rfl)).trans (State.stopsBeingActive_lossOnly _ _))
  · exact .refl s

theorem State.stalePublished_lossOnly (s : State) (n : Station) (keep : List (Fin 6)) : s.LossOnly (s.stalePublished n keep) :=
  .foldl (fun s i => by
    split
    · exact s.staleMirror_lossOnly i
    · exact .refl s) _ s

/-- A loss leaves the settings, the bus controller and whatever else the conditions of chapter 9 rest on but the roster. -/
theorem State.LossOnly.parts (loss : s.LossOnly t) :
    t.cfg = s.cfg ∧ t.startup = s.startup ∧ t.bus = s.bus ∧ t.ownHold = s.ownHold := by
  rw [loss.frame]
  exact ⟨rfl, rfl, rfl, rfl⟩

end

/-! ### Mirrors and lines -/

/-- The handle is that of a mirror of the list. -/
def ofMirrors (l : List (Fin 6)) (h : Handle) : Bool := l.any fun i => decide (mirrorHandle i = h)

theorem ofMirrors_cons (i : Fin 6) (l : List (Fin 6)) :
    ofMirrors (i :: l) = fun h => onlyHandle (mirrorHandle i) h || ofMirrors l h := rfl

/-- From `s` to `t` the mirrors `l` have gone STALE and the stations `gone` have gone ABSENT (R111, R159): the windows and the lines
have lost the handles of the mirrors, and the lines are under condition `c`. -/
structure State.Fading (s t : State) (l : List (Fin 6)) (gone : List Station) (c : Condition) : Prop where
  cfg : t.cfg = s.cfg
  once : l.Nodup
  active : ∀ i ∈ l, (s.mirrors.get i).state = .active
  mirrors : ∀ i, t.mirrors.get i = if i ∈ l then { s.mirrors.get i with state := .stale } else s.mirrors.get i
  stale : s.works.notices.counters.get 11 ≤ 65535 →
    t.works.notices.counters.get 11 = min 65535 (s.works.notices.counters.get 11 + l.length)
  lost : s.works.notices.counters.get 13 ≤ 65535 →
    t.works.notices.counters.get 13 = min 65535 (s.works.notices.counters.get 13 + gone.length)
  windows : ∀ k, t.works.windows.get k = s.works.windowAfter s.cfg (ofMirrors l) k
  lines : s.LinesSound → ∀ q,
    t.works.outputs.get q = (s.works.lineAfter s.cfg (ofMirrors l) q).enter (s.cfg.outputs.get q) c

section Fading

variable {s t u : State} {l : List (Fin 6)} {gone : List Station} {c : Condition} {i : Fin 6}

/-- Nothing has been lost yet. -/
theorem State.Fading.start (cfg : t.cfg = s.cfg) (mirrors : t.mirrors = s.mirrors)
    (stale : t.works.notices.counters.get 11 = s.works.notices.counters.get 11)
    (lost : t.works.notices.counters.get 13 = s.works.notices.counters.get 13)
    (windows : t.works.windows = s.works.windows) (outputs : t.works.outputs = s.works.outputs) :
    s.Fading t [] [] s.lineCondition where
  cfg := cfg
  once := .nil
  active := nofun
  mirrors i := by rw [mirrors, if_neg List.not_mem_nil]
  stale range := by rw [stale]; exact (Nat.min_eq_right range).symm
  lost range := by rw [lost]; exact (Nat.min_eq_right range).symm
  windows k := by rw [windows]; exact (Works.windowAfter_none ..).symm
  lines sound q := by
    have none : s.works.lineAfter s.cfg (ofMirrors []) q = s.works.outputs.get q := Works.lineAfter_none ..
    rw [outputs, none, Output.enter_same (sound.condition q)]

/-- What leaves the mirrors, the windows, the lines and the two notices. -/
theorem State.Fading.same (fading : s.Fading t l gone c) (cfg : u.cfg = t.cfg) (mirrors : u.mirrors = t.mirrors)
    (stale : u.works.notices.counters.get 11 = t.works.notices.counters.get 11)
    (lost : u.works.notices.counters.get 13 = t.works.notices.counters.get 13)
    (windows : u.works.windows = t.works.windows) (outputs : u.works.outputs = t.works.outputs) : s.Fading u l gone c where
  cfg := cfg.trans fading.cfg
  once := fading.once
  active := fading.active
  mirrors := mirrors ▸ fading.mirrors
  stale := stale ▸ fading.stale
  lost := lost ▸ fading.lost
  windows := windows ▸ fading.windows
  lines := outputs ▸ fading.lines

/-- Which of the mirrors have gone STALE can be seen from which are ACTIVE still. -/
theorem State.Fading.mem_iff (fading : s.Fading t l gone c) (i : Fin 6) :
    i ∈ l ↔ (s.mirrors.get i).state = .active ∧ (t.mirrors.get i).state ≠ .active := by
  rw [fading.mirrors i]
  by_cases mem : i ∈ l
  · simp [mem, fading.active i mem]
  · simp [mem]

theorem Env.active_mirrorHandle (env : Env) (i : Fin 6) :
    env.active (mirrorHandle i) = decide ((env.mirrors.get i).state = .active) := by
  rw [Env.active, axisRef_mirrorHandle]

/-- A raising advances the counter of its kind. -/
theorem Notices.raise_counter (x : Notices) (mask : BitVec 16) (k : NoticeKind) {n m : Nat}
    (counted : x.counters.get k.counter = min 65535 (n + m)) :
    (x.raise mask k).counters.get k.counter = min 65535 (n + (m + 1)) := by
  rw [Notices.raise_counters, if_pos rfl, countUp, counted]
  omega

/-- One more mirror goes STALE. -/
theorem State.Fading.goesStale (fading : s.Fading t l gone c) (on : (t.mirrors.get i).state = .active) :
    s.Fading (t.goesStale i) (i :: l) gone c := by
  have fresh : i ∉ l := fun mem => ((fading.mem_iff i).mp mem).2 on
  have before : t.mirrors.get i = s.mirrors.get i := (fading.mirrors i).trans (if_neg fresh)
  let u := (t.withMirror i { t.mirrors.get i with state := .stale }).raise .mirrorStale
  have off : u.env.active (mirrorHandle i) = false := by
    rw [Env.active_mirrorHandle]
    exact decide_eq_false (by simp [u, State.raise])
  have cfg : u.env.cfg = s.cfg := fading.cfg
  have notices : (t.goesStale i).works.notices = t.works.notices.raise t.cfg.noticeMask .mirrorStale :=
    u.works.stopsBeingActive_notices u.env (mirrorHandle i)
  refine ⟨fading.cfg, List.nodup_cons.mpr ⟨fresh, fading.once⟩, fun j mem => ?active, fun j => ?mirrors, fun range => ?stale,
    fun range => ?lost, fun k => ?windows, fun sound q => ?lines⟩
  case active =>
    rcases List.mem_cons.mp mem with rfl | mem
    · rw [← before, on]
    · exact fading.active j mem
  case mirrors =>
    have put : (t.goesStale i).mirrors.get j = if i = j then { t.mirrors.get i with state := .stale } else t.mirrors.get j :=
      Bank.get_put ..
    rw [put]
    by_cases same : i = j
    · subst same
      simp [before]
    · simp [same, Ne.symm same, fading.mirrors j]
  case stale =>
    rw [notices, List.length_cons]
    exact Notices.raise_counter _ _ .mirrorStale (fading.stale range)
  case lost =>
    rw [notices, Notices.raise_counters, if_neg (by decide)]
    exact fading.lost range
  case windows =>
    rw [ofMirrors_cons, ← Works.windowAfter_windowAfter (onlyHandle (mirrorHandle i)) fading.windows k, ← cfg]
    exact u.works.stopsBeingActive_windows off k
  case lines =>
    rw [ofMirrors_cons, ← Works.lineAfter_lineAfter (onlyHandle (mirrorHandle i)) fading.windows (fading.lines sound q), ← cfg]
    exact u.works.stopsBeingActive_outputs off q

theorem State.Fading.staleMirror (fading : s.Fading t l gone c) (i : Fin 6) : ∃ l', s.Fading (t.staleMirror i) l' gone c := by
  by_cases on : (t.mirrors.get i).state = .active
  · rw [State.staleMirror_eq on]
    exact ⟨_, fading.goesStale on⟩
  · rw [State.staleMirror, if_neg on]
    exact ⟨l, fading⟩

/-- The mirrors that a station publishes go STALE one after another (R111, R112). -/
theorem State.Fading.stalePublished (fading : s.Fading t l gone c) (n : Station) (keep : List (Fin 6)) :
    ∃ l', s.Fading (t.stalePublished n keep) l' gone c := by
  unfold State.stalePublished
  generalize List.finRange 6 = mirrors
  induction mirrors generalizing t l with
  | nil => exact ⟨l, fading⟩
  | cons i rest ih =>
    rw [List.foldl_cons]
    split
    · obtain ⟨l', fading'⟩ := fading.staleMirror i
      exact ih fading'
    · exact ih fading

/-- A station goes ABSENT. -/
theorem State.Fading.stationLost (fading : s.Fading t l gone c) (j : Station) :
    s.Fading (t.raise .stationLost) l (gone ++ [j]) c where
  cfg := fading.cfg
  once := fading.once
  active := fading.active
  mirrors := fading.mirrors
  stale range := (Notices.raise_counters ..).trans ((if_neg (by decide)).trans (fading.stale range))
  lost range := by
    rw [List.length_append]
    exact Notices.raise_counter _ _ .stationLost (fading.lost range)
  windows := fading.windows
  lines := fading.lines

/-- The lines come under the condition of the station: the one on the way leaves no trace (`Output.enter_enter`). -/
theorem State.Fading.refreshLines (fading : s.Fading t l gone c)
    (trace : s.lineCondition = .normal → c = .normal ∨ t.lineCondition ≠ .normal) :
    s.Fading t.refreshLines l gone t.lineCondition :=
  { fading with
    lines := fun sound q => by
      have keeps := s.works.lineAfter_keeps s.cfg (ofMirrors l) q
      have enters : t.refreshLines.works.outputs.get q =
          (t.works.outputs.get q).enter (t.cfg.outputs.get q) t.lineCondition := by
        rw [State.refreshLines, State.withWorks_works, Works.enterCondition_outputs, Bank.get_change, State.env_cfg]
      rw [enters, fading.cfg, fading.lines sound q]
      refine Output.enter_enter (keeps.shows (sound.shows.lines q)) fun normal => trace ?_
      rw [← sound.condition q, ← keeps.condition, normal] }

/-- The windows and the lines, as the statements give them. -/
theorem State.Fading.loses (fading : s.Fading t l gone t.lineCondition)
    (others : ∀ k, k ≠ 11 → k ≠ 13 → k ≠ 16 → k ≠ 17 →
      t.works.notices.counters.get k = s.works.notices.counters.get k) : s.Loses t l gone := by
  refine ⟨fading.mirrors, fading.stale, fading.lost, others, fading.windows, fun sound =>
    ⟨Bank.tabulate (s.works.lineAfter s.cfg (ofMirrors l)), State.linesTake_of_enter fun q => ?_, fun q => ?_⟩⟩
  · rw [fading.lines sound q, fading.cfg, Bank.get_tabulate]
  · rw [Bank.get_tabulate, Works.lineAfter, Output.losesAxis_eq, Output.losesFlag]
    refine if_congr ?_ rfl rfl
    rw [Works.darkens, Bool.and_eq_true, decide_eq_true_eq]
    rfl

end Fading

end Sys2Proof.Machine
end

section
/-! The misses that a pair of stations reveals (R158, R159): which stations they are, what they leave of the roster and the mirrors,
and why the line state they bring does not turn back (R164). -/

namespace Sys2Proof.Machine

/-! ### The stations between two others in the rotation -/

/-- The stations strictly between the anchor and `k`, in the order of the rotation; none when the anchor is unknown. -/
def between (anchor : Option Station) (k : Station) : List Station :=
  match anchor with
  | none => []
  | some a => ((List.range 31).map fun d => a + BitVec.ofNat 5 (d + 1)).filter fun j => strictlyBetween a k j

section Between

variable {a k j : Station}

theorem strictlyBetween_iff : strictlyBetween a k j = true ↔
    1 ≤ (j.toNat + 32 - a.toNat) % 32 ∧ (j.toNat + 32 - a.toNat) % 32 ≤ (k.toNat + 63 - a.toNat) % 32 := by
  have ha := a.isLt
  have hj := j.isLt
  have hk := k.isLt
  have one : (1 : Station).toNat = 1 := rfl
  simp only [strictlyBetween, Bool.and_eq_true, decide_eq_true_eq, BitVec.toNat_sub, one]
  omega

/-- Every station but the anchor comes after it, 1 to 31 places on. -/
theorem mem_rotation (other : j ≠ a) : j ∈ (List.range 31).map fun d => a + BitVec.ofNat 5 (d + 1) := by
  have ha := a.isLt
  have hj := j.isLt
  have ne : j.toNat ≠ a.toNat := fun e => other (BitVec.eq_of_toNat_eq e)
  refine List.mem_map.mpr ⟨(j.toNat + 31 - a.toNat) % 32, List.mem_range.mpr (by omega), BitVec.eq_of_toNat_eq ?_⟩
  rw [BitVec.toNat_add, BitVec.toNat_ofNat]
  omega

theorem rotation_nodup (a : Station) : ((List.range 31).map fun d => a + BitVec.ofNat 5 (d + 1)).Nodup := by
  refine List.Nodup.map_on (fun d hd e he same => ?_) List.nodup_range
  have places := congrArg BitVec.toNat ((BitVec.add_right_inj _).mp same)
  rw [List.mem_range] at hd he
  rw [BitVec.toNat_ofNat, BitVec.toNat_ofNat] at places
  omega

theorem between_nodup (anchor : Option Station) (k : Station) : (between anchor k).Nodup := by
  cases anchor with
  | none => exact .nil
  | some a => exact (rotation_nodup a).filter _

theorem mem_between {anchor : Option Station} : j ∈ between anchor k ↔
    ∃ a, anchor = some a ∧ 1 ≤ (j.toNat + 32 - a.toNat) % 32 ∧
      (j.toNat + 32 - a.toNat) % 32 ≤ (k.toNat + 63 - a.toNat) % 32 := by
  cases anchor with
  | none => simp [between]
  | some a =>
    simp only [between, List.mem_filter, strictlyBetween_iff, Option.some.injEq, exists_eq_left']
    refine ⟨And.right, fun apart => ⟨mem_rotation fun same => ?_, apart⟩⟩
    subst same
    omega

/-- The later station of the pair is none of them. -/
theorem not_mem_between (anchor : Option Station) (k : Station) : k ∉ between anchor k := by
  rw [mem_between]
  rintro ⟨a, -, apart, before⟩
  have ha := a.isLt
  have hk := k.isLt
  omega

end Between

/-- The misses of a pair are counted one station after another. -/
theorem State.countMisses_eq (s : State) (anchor : Option Station) (k : Station) :
    s.countMisses anchor k = (between anchor k).foldl State.miss s := by
  cases anchor with
  | none => rfl
  | some a => rw [between, List.foldl_filter, List.foldl_map]; rfl

/-! ### One miss -/

/-- A miss of station `j` counts: it is PRESENT, and not the station itself. -/
def State.counts (s : State) (j : Station) : Bool :=
  decide ((s.roster.get (stationIndex j)).state = .present ∧ j ≠ s.bus.number)

/-- And it brings the station to the absent limit (R159). -/
def State.departs (s : State) (j : Station) : Bool :=
  s.counts j && decide (s.cfg.absentLimit ≤ (s.roster.get (stationIndex j)).missed + 1)

theorem State.missed_iff (s : State) (anchor : Option Station) (k j : Station) :
    s.Missed anchor k j ↔ j ∈ between anchor k ∧ s.counts j = true := by
  rw [State.counts, decide_eq_true_eq, mem_between]
  exact ⟨fun ⟨a, known, apart, before, there⟩ => ⟨⟨a, known, apart, before⟩, there⟩,
    fun ⟨⟨a, known, apart, before⟩, there⟩ => ⟨a, known, apart, before, there⟩⟩

section Miss

variable (s : State) {i j : Station}

theorem State.counts_iff : s.counts j = true ↔ (s.roster.get (stationIndex j)).state = .present ∧ j ≠ s.bus.number :=
  decide_eq_true_iff

theorem State.miss_passed (passed : s.counts j = false) : s.miss j = s :=
  if_neg fun there => by simp [State.counts, there] at passed

/-- A miss below the absent limit. -/
theorem State.miss_early (counts : s.counts j = true) (early : s.departs j = false) :
    s.miss j = (s.withEntry (stationIndex j) (s.missedEntry (s.roster.get (stationIndex j)))).stalePublished j [] := by
  have below : (s.roster.get (stationIndex j)).missed + 1 < s.cfg.absentLimit := by
    simpa [State.departs, counts] using early
  rw [State.miss, if_pos (s.counts_iff.mp counts), if_pos below, State.missedEntry, if_pos below]

/-- The last one. -/
theorem State.miss_last (departs : s.departs j = true) :
    s.miss j = (((s.withEntry (stationIndex j) (s.missedEntry (s.roster.get (stationIndex j)))).raise
      .stationLost).stalePublished j []).refreshLines := by
  rw [State.departs, Bool.and_eq_true, decide_eq_true_eq] at departs
  obtain ⟨counts, limit⟩ := departs
  rw [State.miss, if_pos (s.counts_iff.mp counts), if_neg (by omega), State.missedEntry, if_neg (by omega)]

theorem State.miss_lossOnly (j : Station) : s.LossOnly (s.miss j) := by
  have entry := s.withEntry_lossOnly (stationIndex j) (s.missedEntry (s.roster.get (stationIndex j)))
  cases counts : s.counts j with
  | false => rw [s.miss_passed counts]; exact .refl s
  | true =>
    cases departs : s.departs j with
    | false => rw [s.miss_early counts departs]; exact entry.trans (State.stalePublished_lossOnly ..)
    | true =>
      rw [s.miss_last departs]
      exact entry.trans ((State.raise_lossOnly _ (.inl rfl)).trans
        ((State.stalePublished_lossOnly ..).trans (State.refreshLines_lossOnly _)))

theorem State.refreshLines_roster : s.refreshLines.roster = s.roster := rfl

theorem State.refreshLines_mirrors : s.refreshLines.mirrors = s.mirrors := rfl

theorem State.raise_roster (k : NoticeKind) : (s.raise k).roster = s.roster := rfl

theorem State.stalePublished_roster (n : Station) (keep : List (Fin 6)) : (s.stalePublished n keep).roster = s.roster :=
  (s.stalePublished_mirrorsAlone n keep).parts.2.2.2

/-- A miss that counts is entered in the roster. -/
theorem State.miss_roster (counts : s.counts j = true) :
    (s.miss j).roster = s.roster.put (stationIndex j) (s.missedEntry (s.roster.get (stationIndex j))) := by
  cases departs : s.departs j with
  | false => rw [s.miss_early counts departs, State.stalePublished_roster, State.withEntry_roster]
  | true =>
    rw [s.miss_last departs, State.refreshLines_roster, State.stalePublished_roster, State.raise_roster, State.withEntry_roster]

theorem State.miss_own : (s.miss j).roster.get (stationIndex j) =
    if s.counts j = true then s.missedEntry (s.roster.get (stationIndex j)) else s.roster.get (stationIndex j) := by
  split
  · rename_i counts
    rw [s.miss_roster counts, Bank.get_put_self]
  · rename_i passed
    rw [s.miss_passed (Bool.not_eq_true _ ▸ passed)]

theorem State.miss_other {n : Fin 32} (other : n ≠ stationIndex j) : (s.miss j).roster.get n = s.roster.get n := by
  cases counts : s.counts j with
  | false => rw [s.miss_passed counts]
  | true => rw [s.miss_roster counts, Bank.get_put_ne _ _ other.symm]

/-- What a miss makes of another station is not known from this one. -/
theorem State.miss_counts (other : i ≠ j) : (s.miss j).counts i = s.counts i := by
  obtain ⟨-, -, bus, -⟩ := (s.miss_lossOnly j).parts
  rw [State.counts, s.miss_other fun same => other (stationIndex_inj.mp same), bus, State.counts]

theorem State.miss_departs (other : i ≠ j) : (s.miss j).departs i = s.departs i := by
  obtain ⟨cfg, -, -, -⟩ := (s.miss_lossOnly j).parts
  rw [State.departs, s.miss_counts other, s.miss_other fun same => other (stationIndex_inj.mp same), cfg, State.departs]

/-- The ACTIVE mirrors that the missed station publishes go STALE (R111). -/
theorem State.miss_active (m : Fin 6) : ((s.miss j).mirrors.get m).state = .active ↔
    (s.mirrors.get m).state = .active ∧ ¬(s.counts j = true ∧ s.cfg.publishes j m = true) := by
  cases counts : s.counts j with
  | false => simp [s.miss_passed counts]
  | true =>
    have active (u : State) (cfg : u.cfg = s.cfg) (mirrors : u.mirrors = s.mirrors) :
        ((u.stalePublished j []).mirrors.get m).state = .active ↔
          (s.mirrors.get m).state = .active ∧ ¬(true = true ∧ s.cfg.publishes j m = true) := by
      rw [State.stalePublished_active, cfg, mirrors]
      simp
    cases departs : s.departs j with
    | false => rw [s.miss_early counts departs]; exact active _ rfl rfl
    | true => rw [s.miss_last departs, State.refreshLines_mirrors]; exact active _ rfl rfl

end Miss

/-! ### Misses one after another -/

section Misses

variable (s : State) {js : List Station}

theorem State.misses_lossOnly (js : List Station) : s.LossOnly (js.foldl State.miss s) :=
  .foldl (fun s j => s.miss_lossOnly j) js s

/-- Each station is missed for itself. -/
theorem State.misses_roster (once : js.Nodup) (j : Station) : (js.foldl State.miss s).roster.get (stationIndex j) =
    if j ∈ js ∧ s.counts j = true then s.missedEntry (s.roster.get (stationIndex j))
    else s.roster.get (stationIndex j) := by
  induction js generalizing s with
  | nil => simp
  | cons x xs ih =>
    obtain ⟨fresh, once⟩ := List.nodup_cons.mp once
    rw [List.foldl_cons, ih (s.miss x) once]
    by_cases same : j = x
    · subst same
      simp [fresh, s.miss_own]
    · obtain ⟨cfg, -, -, -⟩ := (s.miss_lossOnly x).parts
      rw [s.miss_other fun e => same (stationIndex_inj.mp e), s.miss_counts same, State.missedEntry, cfg]
      simp [same, State.missedEntry]

theorem State.misses_active (once : js.Nodup) (m : Fin 6) : ((js.foldl State.miss s).mirrors.get m).state = .active ↔
    (s.mirrors.get m).state = .active ∧ ∀ j ∈ js, ¬(s.counts j = true ∧ s.cfg.publishes j m = true) := by
  induction js generalizing s with
  | nil => simp
  | cons x xs ih =>
    obtain ⟨fresh, once⟩ := List.nodup_cons.mp once
    obtain ⟨cfg, -, -, -⟩ := (s.miss_lossOnly x).parts
    have rest : (∀ j ∈ xs, ¬((s.miss x).counts j = true ∧ (s.miss x).cfg.publishes j m = true)) ↔
        ∀ j ∈ xs, ¬(s.counts j = true ∧ s.cfg.publishes j m = true) :=
      forall₂_congr fun j mem => by rw [s.miss_counts (ne_of_mem_of_not_mem mem fresh), cfg]
    rw [List.foldl_cons, ih (s.miss x) once, rest, s.miss_active, List.forall_mem_cons, and_assoc]

end Misses

/-! ### The line state does not turn back (R164) -/

/-- An essential station other than `k` is not PRESENT: the line state is HOLD, and stays so whatever is heard of `k`. -/
def State.Lacks (s : State) (k : Station) : Prop :=
  ∃ n, n ≠ stationIndex k ∧ s.cfg.essential.getLsbD n.val = true ∧ (s.roster.get n).state ≠ .present

/-- From `s` to `t` stations have left the roster, `k` not among them, and nothing else that the line state rests on has changed. -/
structure State.Thinned (s t : State) (k : Station) : Prop where
  cfg : t.cfg = s.cfg
  startup : t.startup = s.startup
  station : t.bus.station = s.bus.station
  number : t.bus.number = s.bus.number
  ownHold : t.ownHold = s.ownHold
  kept : (t.roster.get (stationIndex k)).state = (s.roster.get (stationIndex k)).state
  fewer : ∀ n, (t.roster.get n).state = .present → (s.roster.get n).state = .present
  hold : ∀ n, n ≠ stationIndex s.bus.number → (t.roster.get n).hold = (s.roster.get n).hold

section Thinned

variable {s t u : State} {j k : Station}

theorem State.Thinned.trans (a : s.Thinned t k) (b : t.Thinned u k) : s.Thinned u k where
  cfg := b.cfg.trans a.cfg
  startup := b.startup.trans a.startup
  station := b.station.trans a.station
  number := b.number.trans a.number
  ownHold := b.ownHold.trans a.ownHold
  kept := b.kept.trans a.kept
  fewer n := a.fewer n ∘ b.fewer n
  hold n other := (b.hold n (a.number ▸ other)).trans (a.hold n other)

theorem State.Lacks.thinned (lacks : s.Lacks k) (thin : s.Thinned t k) : t.Lacks k := by
  obtain ⟨n, other, essential, gone⟩ := lacks
  exact ⟨n, other, thin.cfg ▸ essential, fun there => gone (thin.fewer n there)⟩

theorem State.Lacks.not_run (lacks : s.Lacks k) : s.run = false := by
  obtain ⟨n, -, essential, gone⟩ := lacks
  have missing : s.essentialPresent = false := by
    refine List.all_eq_false.mpr ⟨n, List.mem_finRange n, ?_⟩
    simp [essential, gone]
  simp [State.run, missing]

theorem State.lineCondition_normal : s.lineCondition = .normal ↔ s.startup.status = .valid ∧ s.run = true := by
  rw [State.lineCondition_eq]
  cases s.run <;> by_cases valid : s.startup.status = .valid <;> simp [valid]

/-- A station in RUN stays so, or lacks an essential station. -/
theorem State.Thinned.run (thin : s.Thinned t k) (run : s.run = true) : t.run = true ∨ t.Lacks k := by
  simp only [State.run, Bool.and_eq_true, decide_eq_true_eq, Bool.not_eq_true'] at run ⊢
  obtain ⟨⟨⟨rotating, own⟩, peers⟩, essential⟩ := run
  have quiet : t.peerHold = false := by
    refine List.any_eq_false.mpr fun n mem holds => List.any_eq_false.mp peers n mem ?_
    simp only [Bool.and_eq_true, decide_eq_true_eq, thin.number] at holds ⊢
    obtain ⟨⟨other, there⟩, holds⟩ := holds
    exact ⟨⟨other, thin.fewer n there⟩, thin.hold n other ▸ holds⟩
  cases complete : t.essentialPresent with
  | true => exact .inl ⟨⟨⟨thin.station.trans rotating, thin.ownHold.trans own⟩, quiet⟩, rfl⟩
  | false =>
    obtain ⟨n, mem, lacking⟩ := List.all_eq_false.mp complete
    simp only [Bool.or_eq_true, Bool.not_eq_true', decide_eq_true_eq, not_or, Bool.not_eq_false] at lacking
    obtain ⟨needed, gone⟩ := lacking
    refine .inr ⟨n, fun same => gone ?_, needed, gone⟩
    have there := List.all_eq_true.mp essential n mem
    simp only [Bool.or_eq_true, Bool.not_eq_true', decide_eq_true_eq] at there
    rw [same, thin.kept, ← same]
    exact there.resolve_left (by simp [← thin.cfg, needed])

theorem State.missedEntry_hold (s : State) (e : RosterEntry) : (s.missedEntry e).hold = e.hold := by
  unfold State.missedEntry
  split <;> rfl

/-- A miss of another station. -/
theorem State.miss_thinned (s : State) (other : j ≠ k) : s.Thinned (s.miss j) k := by
  obtain ⟨cfg, startup, bus, own⟩ := (s.miss_lossOnly j).parts
  have elsewhere : (s.miss j).roster.get (stationIndex k) = s.roster.get (stationIndex k) :=
    s.miss_other fun same => other (stationIndex_inj.mp same).symm
  refine ⟨cfg, startup, by rw [bus], by rw [bus], own, by rw [elsewhere], fun n there => ?_, fun n _ => ?_⟩
  · by_cases at_j : n = stationIndex j
    · subst at_j
      rw [s.miss_own] at there
      split at there
      · rename_i counts
        exact (s.counts_iff.mp counts).1
      · exact there
    · rwa [s.miss_other at_j] at there
  · by_cases at_j : n = stationIndex j
    · subst at_j
      rw [s.miss_own]
      split
      · exact s.missedEntry_hold _
      · rfl
    · rw [s.miss_other at_j]

end Thinned

/-! ### What the misses of a pair make of the station -/

/-- From `s` to `t`, with the pair's later station `k`: the mirrors `l` have gone STALE and the stations `gone` ABSENT, and if the
lines were in NORMAL and the condition `c` they are under is another, they cannot come back to it. -/
structure State.Losing (s t : State) (k : Station) (l : List (Fin 6)) (gone : List Station) (c : Condition) : Prop
    extends s.Fading t l gone c, s.Thinned t k where
  trace : s.lineCondition = .normal → c = .normal ∨ t.Lacks k

section Losing

variable {s t : State} {j k : Station} {l : List (Fin 6)} {gone : List Station} {c : Condition}

/-- Nothing has been lost yet; the station may have taken the end of a frame. -/
theorem State.Losing.start (fading : s.Fading t [] [] s.lineCondition) (thin : s.Thinned t k) :
    s.Losing t k [] [] s.lineCondition :=
  { fading, thin with trace := .inl }

/-- The condition the station gives its lines is NORMAL again only if they are under it already, whatever is heard of `k`. -/
theorem State.Losing.settles (losing : s.Losing t k l gone c) (e : RosterEntry) :
    s.lineCondition = .normal → c = .normal ∨ (t.withEntry (stationIndex k) e).lineCondition ≠ .normal := fun normal =>
  (losing.trace normal).imp_right fun ⟨n, other, essential, absent⟩ back => by
    have lacks : (t.withEntry (stationIndex k) e).Lacks k :=
      ⟨n, other, essential, by rwa [State.withEntry_roster, Bank.get_put_ne _ _ other.symm]⟩
    obtain ⟨-, run⟩ := State.lineCondition_normal.mp back
    simp [lacks.not_run] at run

/-- The lines come under that condition. -/
theorem State.Losing.refreshLines (losing : s.Losing t k l gone c) : s.Losing t.refreshLines k l gone t.lineCondition :=
  have same : t.withEntry (stationIndex k) (t.roster.get (stationIndex k)) = t := by
    rw [State.withEntry, Bank.get_put_eq]
  have thin : s.Thinned t.refreshLines k :=
    ⟨losing.toThinned.cfg, losing.startup, losing.station, losing.number, losing.ownHold, losing.kept, losing.fewer, losing.hold⟩
  { losing.toFading.refreshLines (same ▸ losing.settles (t.roster.get (stationIndex k))), thin with
    trace := fun normal => by
      obtain ⟨valid, run⟩ := State.lineCondition_normal.mp normal
      refine (thin.run run).imp_left fun run => State.lineCondition_normal.mpr ⟨losing.startup ▸ valid, run⟩ }

/-- One more station is missed. -/
theorem State.Losing.miss (losing : s.Losing t k l gone c) (other : j ≠ k) :
    ∃ l' c', s.Losing (t.miss j) k l' (gone ++ [j].filter t.departs) c' := by
  have thin := losing.toThinned.trans (t.miss_thinned other)
  have trace : s.lineCondition = .normal → c = .normal ∨ (t.miss j).Lacks k := fun normal =>
    (losing.trace normal).imp_right fun lacks => lacks.thinned (t.miss_thinned other)
  have entered : s.Fading (t.withEntry (stationIndex j) (t.missedEntry (t.roster.get (stationIndex j)))) l gone c :=
    losing.toFading.same rfl rfl rfl rfl rfl rfl
  cases departs : t.departs j with
  | false =>
    rw [List.filter_singleton, departs, cond_false, List.append_nil]
    cases counts : t.counts j with
    | false => exact ⟨l, c, (t.miss_passed counts).symm ▸ losing⟩
    | true =>
      rw [t.miss_early counts departs] at thin trace ⊢
      obtain ⟨l', fading⟩ := entered.stalePublished j []
      exact ⟨l', c, { fading, thin with trace }⟩
  | true =>
    rw [List.filter_singleton, departs, cond_true]
    rw [t.miss_last departs] at thin trace ⊢
    obtain ⟨l', fading⟩ := (entered.stationLost j).stalePublished j []
    generalize State.stalePublished _ j [] = u at thin trace fading ⊢
    have before : s.Thinned u k :=
      ⟨thin.cfg, thin.startup, thin.station, thin.number, thin.ownHold, thin.kept, thin.fewer, thin.hold⟩
    have losing : s.Losing u k l' (gone ++ [j]) c := { fading, before with trace }
    exact ⟨l', _, losing.refreshLines⟩

/-- Stations are missed one after another. -/
theorem State.Losing.misses {js : List Station} (losing : s.Losing t k l gone c) (once : js.Nodup) (others : k ∉ js) :
    ∃ l' c', s.Losing (js.foldl State.miss t) k l' (gone ++ js.filter t.departs) c' := by
  induction js generalizing t l gone c with
  | nil => exact ⟨l, c, by simpa using losing⟩
  | cons x xs ih =>
    obtain ⟨fresh, once⟩ := List.nodup_cons.mp once
    obtain ⟨l', c', missed⟩ := losing.miss fun (same : x = k) => others (same ▸ List.mem_cons_self)
    have others : k ∉ xs := fun mem => others (List.mem_cons_of_mem x mem)
    have rest : xs.filter (t.miss x).departs = xs.filter t.departs :=
      List.filter_congr fun j mem => t.miss_departs (ne_of_mem_of_not_mem mem fresh)
    have all : (x :: xs).filter t.departs = [x].filter t.departs ++ xs.filter t.departs := List.filter_append (l₁ := [x]) xs
    rw [List.foldl_cons, all, ← List.append_assoc, ← rest]
    exact ih missed once others

/-- The misses of the pair (anchor, `k`). -/
theorem State.Losing.countMisses (losing : s.Losing t k [] [] c) (anchor : Option Station) :
    ∃ l c', s.Losing (t.countMisses anchor k) k l ((between anchor k).filter t.departs) c' := by
  rw [State.countMisses_eq]
  exact losing.misses (between_nodup anchor k) (not_mem_between anchor k)

end Losing

/-! ### The misses of a pair, as the statements give them -/

section Pair

variable (s : State) (anchor : Option Station) (k : Station)

theorem State.countMisses_lossOnly : s.LossOnly (s.countMisses anchor k) := by
  rw [State.countMisses_eq]
  exact s.misses_lossOnly _

theorem State.countMisses_roster (j : Station) :
    (s.Missed anchor k j →
      (s.countMisses anchor k).roster.get (stationIndex j) = s.missedEntry (s.roster.get (stationIndex j))) ∧
    (¬s.Missed anchor k j → (s.countMisses anchor k).roster.get (stationIndex j) = s.roster.get (stationIndex j)) := by
  rw [State.countMisses_eq, s.misses_roster (between_nodup anchor k), State.missed_iff]
  exact ⟨fun missed => if_pos missed, fun kept => if_neg kept⟩

/-- The station that publishes mirror `i`'s axis is one of those the pair misses. -/
def State.LosesPublisher (i : Fin 6) : Prop :=
  ∃ id, (s.cfg.mirrors.get i).lineAxis = some id ∧ s.Missed anchor k (publisher id)

theorem State.countMisses_active (i : Fin 6) : ((s.countMisses anchor k).mirrors.get i).state = .active ↔
    (s.mirrors.get i).state = .active ∧ ¬s.LosesPublisher anchor k i := by
  rw [State.countMisses_eq, s.misses_active (between_nodup anchor k)]
  refine and_congr_right fun _ => ⟨fun none ⟨id, axis, missed⟩ => ?_, fun none j mem ⟨counts, publishes⟩ => none ?_⟩
  · obtain ⟨mem, counts⟩ := (s.missed_iff ..).mp missed
    exact none _ mem ⟨counts, (s.cfg.publishes_iff ..).mpr ⟨id, axis, rfl⟩⟩
  · obtain ⟨id, axis, rfl⟩ := (s.cfg.publishes_iff ..).mp publishes
    exact ⟨id, axis, (s.missed_iff ..).mpr ⟨mem, counts⟩⟩

/-- The stations that the misses bring to the absent limit. -/
theorem State.goneBy_between : s.GoneBy anchor k ((between anchor k).filter s.departs) := by
  refine ⟨(between_nodup anchor k).filter _, fun j => ?_⟩
  rw [List.mem_filter, State.missed_iff, State.departs, Bool.and_eq_true, decide_eq_true_eq, and_assoc]

end Pair

end Sys2Proof.Machine
end

section
/-! The rotation (chapters 7 and 9): frames of other stations, the two ways a station joins, and own frames that complete. -/

namespace Sys2Proof.Machine

/-! ### What the items of a frame do not reach (R142, R143) -/

/-- From `s` to `t` only the axes, the mirrors, the rules, the command unit and the consumer blocks change. -/
def State.ItemsOnly (s t : State) : Prop :=
  t = { s with axes := t.axes, mirrors := t.mirrors, rules := t.rules, command := t.command, works := t.works }

section Items

variable {s t u : State}

theorem State.ItemsOnly.refl (s : State) : s.ItemsOnly s := rfl

theorem State.ItemsOnly.trans (a : s.ItemsOnly t) (b : t.ItemsOnly u) : s.ItemsOnly u := by
  unfold State.ItemsOnly at *
  rw [b, a]

theorem State.ItemsOnly.of_mirrors (frame : t = { s with mirrors := t.mirrors, works := t.works }) : s.ItemsOnly t := by
  unfold State.ItemsOnly
  rw [frame]

/-- What of the station stays. -/
theorem State.ItemsOnly.parts (items : s.ItemsOnly t) :
    t.cfg = s.cfg ∧ t.startup = s.startup ∧ t.holdIn = s.holdIn ∧ t.held = s.held ∧ t.nextSequence = s.nextSequence ∧
      t.bus = s.bus ∧ t.roster = s.roster := by
  unfold State.ItemsOnly at items
  rw [items]
  exact ⟨rfl, rfl, rfl, rfl, rfl, rfl, rfl⟩

/-- A local axis takes an origin command, or it is refused. -/
theorem State.onLocalAxis_itemsOnly {handle : Byte} {f : Fin 2 → Answer} (effect : ∀ i, s.ItemsOnly (f i).state) :
    s.ItemsOnly (s.onLocalAxis handle f).state := by
  unfold State.onLocalAxis
  split
  · exact .refl s
  · split
    · exact .refl s
    · exact effect _

/-- No command reaches the bus controller or the roster. -/
theorem State.perform_itemsOnly (s : State) (requester : Station) (c : Cmd) : s.ItemsOnly (s.perform requester c).state := by
  cases c with
  | readStatus page handle => exact (s.readStatus_state page handle).symm ▸ .refl s
  | readQueue handle index => exact (s.readQueue_state handle index).symm ▸ .refl s
  | setOrigin handle value => exact s.onLocalAxis_itemsOnly fun i => by split <;> rfl
  | armIndex handle value => exact s.onLocalAxis_itemsOnly fun i => by split <;> rfl
  | armIndexCancel handle => exact s.onLocalAxis_itemsOnly fun _ => rfl
  | trimCam ring entry position =>
    simp only [State.perform, State.trimCam]
    repeat' split
    all_goals rfl
  | trimRule rule offset =>
    simp only [State.perform, State.trimRule]
    repeat' split
    all_goals rfl
  | trimWindow window lower upper =>
    simp only [State.perform, State.trimWindow]
    repeat' split
    all_goals rfl
  | armRule index arm start =>
    simp only [State.perform, State.armRule]
    repeat' split
    all_goals rfl
  | armRing index arm start =>
    simp only [State.perform, State.armRing]
    repeat' split
    all_goals rfl
  | injectEntry handle due sequence tagClass forward action =>
    simp only [State.perform, State.injectEntry]
    repeat' split
    all_goals rfl
  | clearQueue handle =>
    simp only [State.perform, State.clearQueue]
    repeat' split
    all_goals rfl
  | pulseOutput line width =>
    simp only [State.perform, State.pulseOutput]
    repeat' split
    all_goals rfl
  | clearCounts => rfl
  | restart => rfl
  | unfit code => rfl
  | unknown code => rfl

theorem State.takeCommand_itemsOnly (s : State) (requester : Station) (tid : Byte) (c : Cmd) :
    s.ItemsOnly (s.takeCommand requester tid c) := by
  have executed : s.ItemsOnly (s.execute requester c).state := by
    unfold State.execute
    split
    · exact .refl s
    · split
      · exact .refl s
      · split
        · exact .refl s
        · exact s.perform_itemsOnly requester c
  unfold State.takeCommand
  split
  · exact .refl s
  · split
    · rfl
    · split
      · rfl
      · exact executed.trans rfl

theorem State.applyAxisItem_itemsOnly (s : State) (source : Station) (r : AxisReport) :
    s.ItemsOnly (s.applyAxisItem source r).2 := by
  unfold State.applyAxisItem
  split
  · exact .refl s
  · split
    · rfl
    · split
      · exact .refl s
      · dsimp only
        split
        · rfl
        · split
          · rfl
          · exact .of_mirrors (s.applyReport_frame _ r)

theorem State.applyItem_itemsOnly (s : State) (source : Station) (taken : List (Fin 6)) (i : Item) :
    s.ItemsOnly (s.applyItem source taken i).2 := by
  unfold State.applyItem
  split
  · split
    · rfl
    · exact s.applyAxisItem_itemsOnly source _
  · split
    · rfl
    · split <;> rfl
  · split
    · rfl
    · split
      · exact s.takeCommand_itemsOnly source _ _
      · exact .refl s
  · exact .refl s

theorem State.applyItems_itemsOnly (s : State) (source : Station) (taken : List (Fin 6)) (l : List Item) :
    s.ItemsOnly (s.applyItems source taken l).2 := by
  induction l generalizing s taken with
  | nil => exact .refl s
  | cons i rest ih => exact (s.applyItem_itemsOnly source taken i).trans (ih _ _)

/-- Nor does the check of R112. -/
theorem State.applyBody_itemsOnly (s : State) (f : Frame) : s.ItemsOnly (s.applyBody f) := by
  unfold State.applyBody
  exact (s.applyItems_itemsOnly f.source [] f.items).trans (.of_mirrors (State.stalePublished_frame ..))

/-- A frame without items leaves that check alone. -/
theorem State.applyBody_empty (s : State) {f : Frame} (empty : f.items = []) :
    s.applyBody f = s.stalePublished f.source [] := by
  rw [State.applyBody, empty]
  rfl

end Items

/-! ### Headers (R131, R157) -/

/-- A bus controller that stays in its station state is no concern of the windows and the lines. -/
theorem State.Fading.withBus {s t : State} {l : List (Fin 6)} {gone : List Station}
    (fading : s.Fading t l gone t.lineCondition) {b : Bus} (stays : t.bus.Stays b) :
    s.Fading (t.withBus b) l gone (t.withBus b).lineCondition := by
  rw [State.lineCondition_congr (s := t) (t := t.withBus b) rfl rfl stays.station stays.number rfl rfl rfl]
  exact fading.same rfl rfl rfl rfl rfl rfl

section Header

variable (s : State) (f : Frame)

/-- The header is applied to a station that has counted the frame (R197). -/
theorem State.headed_eq :
    s.headed f =
      ((((s.withWorks (s.works.count framesReceived)).countMisses s.bus.anchor f.source).withEntry
        (stationIndex f.source) ⟨.present, 0, f.hold⟩).refreshLines).withBus
          ((s.bus.frameEnded (some f.source) 0).record f.source) := by
  obtain ⟨-, -, bus, -⟩ := ((s.withWorks (s.works.count framesReceived)).countMisses_lossOnly s.bus.anchor f.source).parts
  have same : ((s.withWorks (s.works.count framesReceived)).applyHeader s.bus.anchor f.source f.hold).bus = s.bus := bus
  rw [State.headed, same]
  rfl

theorem State.headed_bus (s : State) (f : Frame) :
    (s.headed f).bus = (s.bus.frameEnded (some f.source) 0).record f.source := by rw [State.headed_eq]; rfl

/-- The anchor is the source, whose first frame a LISTENING station records. -/
theorem State.headed_bus_first {s : State} {f : Frame} (first : s.bus.station ≠ .listening ∨ f.source ∉ s.bus.joined) :
    (s.headed f).bus = { s.bus.afterFrame (some f.source) 0 with
      joined := if s.bus.station = .listening then s.bus.joined ++ [f.source] else s.bus.joined } := by
  rw [State.headed_bus, Bus.frameEnded_eq]
  unfold Bus.record
  split
  · rename_i records
    rw [if_pos (show s.bus.station = .listening from records.1)]
    rfl
  · rename_i known
    have elsewhere : s.bus.station ≠ .listening := fun listening =>
      known ⟨listening, by simpa [Bus.afterFrame] using first.resolve_left (not_not.mpr listening)⟩
    rw [if_neg elsewhere]
    rfl

/-- The roster takes the misses, and the source is PRESENT with the HOLD flag of the header. -/
theorem State.headed_source : (s.headed f).roster.get (stationIndex f.source) = ⟨.present, 0, f.hold⟩ := by
  rw [State.headed_eq]
  exact Bank.get_put_self ..

theorem State.headed_other {j : Station} (other : j ≠ f.source) :
    (s.headed f).roster.get (stationIndex j) = (s.countMisses s.bus.anchor f.source).roster.get (stationIndex j) := by
  have counted := (s.withWorks (s.works.count framesReceived)).countMisses_roster s.bus.anchor f.source j
  have plain := s.countMisses_roster s.bus.anchor f.source j
  have header : (s.headed f).roster.get (stationIndex j) =
      ((s.withWorks (s.works.count framesReceived)).countMisses s.bus.anchor f.source).roster.get (stationIndex j) := by
    rw [State.headed_eq]
    exact Bank.get_put_ne _ _ fun same => other (stationIndex_inj.mp same).symm
  rw [header]
  by_cases missed : s.Missed s.bus.anchor f.source j
  · exact (counted.1 missed).trans (plain.1 missed).symm
  · exact (counted.2 missed).trans (plain.2 missed).symm

/-- The frame counts, and what else a header reaches is what its misses do. -/
theorem State.headed_lossOnly :
    (({ s with bus := (s.headed f).bus } : State).withWorks (s.works.count framesReceived)).LossOnly (s.headed f) := by
  have loss := (((s.withWorks (s.works.count framesReceived)).countMisses_lossOnly s.bus.anchor f.source).trans
    (State.withEntry_lossOnly _ (stationIndex f.source) ⟨.present, 0, f.hold⟩)).trans (State.refreshLines_lossOnly _)
  rw [State.headed_eq]
  exact ⟨by rw [loss.frame]; rfl, loss.counters, loss.pending⟩

theorem State.headed_active (i : Fin 6) : ((s.headed f).mirrors.get i).state = .active ↔
    (s.mirrors.get i).state = .active ∧ ¬s.LosesPublisher s.bus.anchor f.source i := by
  rw [State.headed_eq]
  exact (s.withWorks (s.works.count framesReceived)).countMisses_active s.bus.anchor f.source i

/-- What the misses of the header make of the mirrors, the windows and the lines. -/
theorem State.headed_fading : ∃ l, s.Fading (s.headed f) l ((between s.bus.anchor f.source).filter s.departs)
    (s.headed f).lineCondition := by
  have start : s.Losing (s.withWorks (s.works.count framesReceived)) f.source [] [] s.lineCondition := by
    refine .start (.start rfl rfl ?_ ?_ rfl rfl) ⟨rfl, rfl, rfl, rfl, rfl, rfl, fun _ => id, fun _ _ => rfl⟩
    · exact Bank.get_put_ne _ _ (by decide)
    · exact Bank.get_put_ne _ _ (by decide)
  obtain ⟨l, c, losing⟩ := start.countMisses s.bus.anchor
  have bus := ((s.withWorks (s.works.count framesReceived)).countMisses_parts s.bus.anchor f.source).2
  have entered := losing.toFading.same (u := State.withEntry _ (stationIndex f.source) ⟨.present, 0, f.hold⟩)
    rfl rfl rfl rfl rfl rfl
  have refreshed := entered.refreshLines (losing.settles ⟨.present, 0, f.hold⟩)
  rw [State.headed_eq]
  refine ⟨l, refreshed.withBus ?_⟩
  change Bus.Stays (State.countMisses ..).bus _
  rw [bus]
  exact (Bus.frameEnded_stays ..).trans (Bus.record_stays ..)

end Header

/-! ### Frames of other stations (R121, R132, R142) -/

section Accepted

variable {s : State} {f : Frame}

/-- The station that does not join applies the body. -/
theorem State.acceptFrame_stays (first : s.bus.station ≠ .listening ∨ f.source ∉ s.bus.joined) :
    s.acceptFrame f = (s.headed f).applyBody f := by
  have stays : (decide (s.bus.station = .listening) && s.bus.joined.contains f.source) = false := by
    simpa [Decidable.imp_iff_not_or] using first
  unfold State.acceptFrame
  dsimp only
  rw [stays]
  rfl

/-- One that joins does so after the body or, if it has items, before. -/
theorem State.acceptFrame_joins (listening : s.bus.station = .listening) (known : f.source ∈ s.bus.joined) :
    s.acceptFrame f = ((s.headed f).applyBody f).join ∨
      f.items ≠ [] ∧ ∃ w, s.acceptFrame f = (((s.headed f).withWorks w).applyBody f).join ∨
        s.acceptFrame f = ((s.headed f).withWorks w).join.applyBody f := by
  have joins : (decide (s.bus.station = .listening) && s.bus.joined.contains f.source) = true := by
    simp [listening, known]
  unfold State.acceptFrame
  dsimp only
  rw [joins, if_pos rfl]
  split
  · exact .inl rfl
  · rename_i some
    refine .inr ⟨by simpa using some, (s.headed f).works.draw.2, ?_⟩
    split
    · exact .inl rfl
    · exact .inr rfl

/-- A mirror that the header and a body without items leave to go STALE (R111, R112). -/
def State.Unheard (s : State) (f : Frame) (i : Fin 6) : Prop :=
  ∃ id, (s.cfg.mirrors.get i).lineAxis = some id ∧ (publisher id = f.source ∨ s.Missed s.bus.anchor f.source (publisher id))

theorem State.unheard_iff (s : State) (f : Frame) (i : Fin 6) :
    s.Unheard f i ↔ s.cfg.publishes f.source i = true ∨ s.LosesPublisher s.bus.anchor f.source i := by
  rw [Settings.publishes_iff]
  exact ⟨fun ⟨id, axis, here⟩ => here.imp (fun own => ⟨id, axis, own⟩) fun missed => ⟨id, axis, missed⟩,
    fun gone => gone.elim (fun ⟨id, axis, own⟩ => ⟨id, axis, .inl own⟩) fun ⟨id, axis, missed⟩ => ⟨id, axis, .inr missed⟩⟩

theorem State.stalePublished_lineCondition (s : State) (n : Station) (keep : List (Fin 6)) :
    (s.stalePublished n keep).lineCondition = s.lineCondition := by
  have frame := s.stalePublished_frame n keep
  generalize s.stalePublished n keep = t at frame
  rw [frame]
  rfl

/-- What a frame without items makes of the mirrors, the windows and the lines. -/
theorem State.heard_fading (s : State) (f : Frame) :
    let t := (s.headed f).stalePublished f.source []
    ∃ l, s.Fading t l ((between s.bus.anchor f.source).filter s.departs) t.lineCondition ∧
      ∀ i, i ∈ l ↔ (s.mirrors.get i).state = .active ∧ s.Unheard f i := by
  obtain ⟨l, headed⟩ := s.headed_fading f
  obtain ⟨l', fading⟩ := headed.stalePublished f.source []
  have cfg := headed.cfg
  rw [← State.stalePublished_lineCondition _ f.source []] at fading
  refine ⟨l', fading, fun i => ?_⟩
  rw [fading.mem_iff, ne_eq, State.stalePublished_active, State.headed_active, State.unheard_iff, cfg]
  simp only [List.not_mem_nil, not_false_eq_true, and_true]
  tauto

/-- A frame without items reaches the bus controller, the roster, the mirrors, the notices, the windows and the lines alone. -/
theorem State.heard_frame (s : State) (f : Frame) :
    let t := (s.headed f).stalePublished f.source []
    t = { s with
      bus := (s.headed f).bus, roster := t.roster, mirrors := t.mirrors
      works := { s.works with notices := t.works.notices, windows := t.works.windows, outputs := t.works.outputs } } :=
  ((s.headed_lossOnly f).trans (State.stalePublished_lossOnly ..)).frame

/-- It counts as a frame, and every other counter than those of the losses stays. -/
theorem State.heard_counters (s : State) (f : Frame) (k : Fin 19) (stale : k ≠ 11) (lost : k ≠ 13) :
    ((s.headed f).stalePublished f.source []).works.notices.counters.get k =
      if 16 = k then countUp (s.works.notices.counters.get 16) else s.works.notices.counters.get k :=
  (((s.headed_lossOnly f).trans (State.stalePublished_lossOnly ..)).counters k stale lost).trans (Bank.get_put ..)

/-- A valid frame of another station ends as it is accepted. -/
theorem State.frame_accepted {bytes : List Byte} (hears : s.Hears)
    (judged : s.bus.reception = .none ∨ s.bus.reception = .frame) (valid : judge bytes = some f)
    (other : f.source ≠ s.bus.number) : exec (.receiveFrame bytes) s = .next (s.acceptFrame f) := by
  rw [State.frame_received hears, State.frameEnd_valid judged valid, if_neg other]

end Accepted

/-- Settles O28: the header is `State.headed`, which the items leave as `State.ItemsOnly` says, and without items the mirrors of
the source go STALE too (`State.heard_fading`). -/
theorem acceptedFrame : Obligations.AcceptedFrame := by
  intro s bytes f hears judged valid other first
  obtain ⟨cfg, startup, holdIn, held, nextSequence, bus, roster⟩ := ((s.headed f).applyBody_itemsOnly f).parts
  have loss := s.headed_lossOnly f
  refine ⟨(s.headed f).applyBody f, ?_, bus.trans (State.headed_bus_first first), ?source, fun j ne => ?others,
    cfg.trans ?_, startup.trans ?_, holdIn.trans ?_, held.trans ?_, nextSequence.trans ?_, fun empty => ?empty⟩
  · rw [State.frame_accepted hears judged valid other, State.acceptFrame_stays first]
  case source => rw [roster, s.headed_source f]
  case others =>
    rw [roster, s.headed_other f ne]
    exact s.countMisses_roster s.bus.anchor f.source j
  case empty =>
    rw [State.applyBody_empty _ empty]
    obtain ⟨l, fading, mem⟩ := s.heard_fading f
    have frame := s.heard_frame f
    have counters := s.heard_counters f
    dsimp only at frame fading
    generalize (s.headed f).stalePublished f.source [] = t at *
    have frames : t.works.notices.counters.get 16 = _ := counters 16 (by decide) (by decide)
    have others (k : Fin 19) (stale : k ≠ 11) (lost : k ≠ 13) (other : k ≠ 16) := (counters k stale lost).trans (if_neg other.symm)
    refine ⟨by rw [frame], by rw [frame], by rw [frame], by rw [frame], by rw [frame], by rw [frame], by rw [frame],
      fun below => ?_, others 17 (by decide) (by decide) (by decide),
      ⟨l, _, fading.once, s.goneBy_between .., fading.loses fun k stale lost frames _ => others k stale lost frames, mem⟩,
      by rw [frame], by rw [frame], fun i => ⟨fun lost => ?_, fun kept => ?_⟩⟩
    · rw [frames, if_pos rfl, countUp]
      omega
    · rw [fading.mirrors i, if_pos ((mem i).mpr lost)]
    · rw [fading.mirrors i, if_neg fun lost => kept ((mem i).mp lost)]
  all_goals rw [loss.frame]; rfl

/-! ### Joining on a frame (R132) -/

section Joins

variable {s : State} {f : Frame}

/-- What a station that joins after the body, or before it, knows of the rotation. -/
structure State.Joined (s : State) (f : Frame) (t : State) : Prop where
  bus : t.bus = { (s.headed f).bus with
    station := .rotating, anchor := none, joined := [], wait := some ⟨24 + 64 * s.bus.number.toNat, 0⟩ }
  source : t.roster.get (stationIndex f.source) = ⟨.present, 0, f.hold⟩
  own : (t.roster.get (stationIndex s.bus.number)).state = .present

theorem State.headed_number (s : State) (f : Frame) : (s.headed f).bus.number = s.bus.number := (s.headed_stays f).number

/-- A station that joins as the header has left it. -/
theorem State.join_joined {u : State} (other : f.source ≠ s.bus.number) (bus : u.bus = (s.headed f).bus)
    (roster : u.roster = (s.headed f).roster) : s.Joined f u.join := by
  have number : u.bus.number = s.bus.number := bus ▸ s.headed_number f
  have own := u.enterStation_own .rotating
  have elsewhere := u.enterStation_other .rotating (n := stationIndex f.source)
  rw [number] at own elsewhere
  refine ⟨?_, ?_, ?_⟩
  · rw [State.join_bus, bus, s.headed_number f]
  · rw [State.join_roster, elsewhere fun same => other (stationIndex_inj.mp same), roster, s.headed_source f]
  · rw [State.join_roster, own]
    rfl

theorem State.Joined.applyBody {u : State} (joined : s.Joined f u) : s.Joined f (u.applyBody f) := by
  obtain ⟨-, -, -, -, -, bus, roster⟩ := (u.applyBody_itemsOnly f).parts
  exact ⟨bus.trans joined.bus, by rw [roster, joined.source], by rw [roster, joined.own]⟩

/-- Before the body or after it, the station joins. -/
theorem State.acceptFrame_joined (listening : s.bus.station = .listening) (known : f.source ∈ s.bus.joined)
    (other : f.source ≠ s.bus.number) : s.Joined f (s.acceptFrame f) := by
  have after (w : Works) : s.Joined f (((s.headed f).withWorks w).applyBody f).join := by
    obtain ⟨-, -, -, -, -, bus, roster⟩ := (((s.headed f).withWorks w).applyBody_itemsOnly f).parts
    exact State.join_joined other bus roster
  obtain join | ⟨-, w, join | join⟩ := State.acceptFrame_joins listening known
  · rw [join]; exact after (s.headed f).works
  · rw [join]; exact after w
  · rw [join]; exact (State.join_joined (u := (s.headed f).withWorks w) other rfl rfl).applyBody

/-- The lines of a LISTENING station are not in NORMAL (R88, R164), so that what it joins on leaves no trace on them. -/
theorem State.Fading.join {t : State} {l : List (Fin 6)} {gone : List Station} {c : Condition} (fading : s.Fading t l gone c)
    (listening : s.bus.station = .listening) : s.Fading t.join l gone t.join.lineCondition := by
  have hold : s.run = false := by simp [State.run, listening]
  have dark : s.lineCondition ≠ .normal := fun normal => by
    obtain ⟨-, run⟩ := State.lineCondition_normal.mp normal
    simp [hold] at run
  have entered : s.Fading ((t.enterStation .rotating).withBus { (t.enterStation .rotating).bus with
      anchor := none, joined := [], wait := some ⟨waitBits (t.enterStation .rotating).bus.number none, 0⟩ }) l gone c :=
    fading.same rfl rfl rfl rfl rfl rfl
  exact entered.refreshLines fun normal => absurd normal dark

theorem State.join_notices (s : State) : s.join.works.notices = s.works.notices := rfl

end Joins

/-- Settles O30: on an empty bus by `State.join` alone, on a frame by `State.acceptFrame_joined` and, without items, by
`State.heard_fading`. -/
theorem joinsTheRotation : Obligations.JoinsTheRotation := by
  intro s hears listening
  refine ⟨fun quiet => ?empty, fun bytes f judged valid other known => ?frame⟩
  case empty =>
    refine ⟨s.emptyBus, rfl, ?_⟩
    rw [State.emptyBus_joins hears listening quiet]
    generalize idle : max s.bus.idle (2072 * bitClocks s.bus.rate) = n
    exact ⟨rfl, State.join_bus _, fun n other => State.enterStation_other _ _ other,
      congrArg RosterEntry.state (State.enterStation_own _ _), rfl, State.join_takes _⟩
  case frame =>
    have joined := State.acceptFrame_joined listening known other
    refine ⟨s.acceptFrame f, State.frame_accepted hears judged valid other, by rw [joined.bus], by rw [joined.bus],
      by rw [joined.bus], by rw [joined.bus], joined.source, joined.own, fun empty => ?_⟩
    have join : s.acceptFrame f = ((s.headed f).stalePublished f.source []).join := by
      rw [← State.applyBody_empty _ empty]
      exact (State.acceptFrame_joins listening known).resolve_right fun some => some.1 empty
    obtain ⟨l, fading, mem⟩ := s.heard_fading f
    refine ⟨l, _, fading.once, s.goneBy_between .., ?_, mem⟩
    rw [join]
    refine (fading.join listening).loses fun k stale lost frames _ => ?_
    rw [State.join_notices, s.heard_counters f k stale lost, if_neg frames.symm]


/-! ### What a completion is to the notice unit (R196, R197) -/

section Carried

variable (x : Notices) (l : List (NoticeKind × Nat))

/-- The carried counts leave the counters. -/
theorem Notices.subtract_counters : (x.subtract l).counters = x.counters :=
  foldl_frame (fun (x : Notices) (p : NoticeKind × Nat) =>
      { x with pending := x.pending.put p.1.code (x.pending.get p.1.code - p.2) })
    (fun x y => y.counters = x.counters) (fun _ => rfl) (fun _ _ _ a b => b.trans a) (fun _ _ => rfl) l x

theorem Notices.subtract_cons (p : NoticeKind × Nat) :
    x.subtract (p :: l) = Notices.subtract { x with pending := x.pending.put p.1.code (x.pending.get p.1.code - p.2) } l := rfl

/-- A record whose kind is not carried stays. -/
theorem Notices.subtract_other {k : NoticeKind} (other : ∀ n, (k, n) ∉ l) :
    (x.subtract l).pending.get k.code = x.pending.get k.code := by
  induction l generalizing x with
  | nil => rfl
  | cons p l ih =>
    have apart : p.1.code ≠ k.code := fun same =>
      other p.2 (NoticeKind.code_injective same ▸ List.mem_cons_self)
    rw [Notices.subtract_cons, ih _ fun n mem => other n (List.mem_cons_of_mem p mem)]
    exact Bank.get_put_ne _ _ apart

/-- One that is carried once loses what was carried. -/
theorem Notices.subtract_carried (once : (l.map fun p => p.1).Nodup) {k : NoticeKind} {n : Nat} (mem : (k, n) ∈ l) :
    (x.subtract l).pending.get k.code = x.pending.get k.code - n := by
  induction l generalizing x with
  | nil => exact absurd mem List.not_mem_nil
  | cons p l ih =>
    rw [List.map_cons, List.nodup_cons] at once
    obtain ⟨fresh, once⟩ := once
    rw [Notices.subtract_cons]
    rcases List.mem_cons.mp mem with rfl | mem
    · rw [Notices.subtract_other _ _ fun m mem => fresh (List.mem_map.mpr ⟨_, mem, rfl⟩)]
      exact Bank.get_put_self ..
    · rw [ih _ once mem]
      exact congrArg (· - n) (Bank.get_put_ne _ _ fun same =>
        fresh (List.mem_map.mpr ⟨_, mem, (NoticeKind.code_injective same).symm⟩))

/-- What the subtraction makes of a record rests on that record. -/
theorem Notices.subtract_congr {x y : Notices} {k : Fin 16} (same : x.pending.get k = y.pending.get k) :
    (x.subtract l).pending.get k = (y.subtract l).pending.get k := by
  induction l generalizing x y with
  | nil => exact same
  | cons p l ih =>
    rw [Notices.subtract_cons, Notices.subtract_cons]
    refine ih ?_
    dsimp only
    rw [Bank.get_put, Bank.get_put]
    split
    · rename_i at_k
      rw [at_k, same]
    · exact same

variable (w : Works) (f : Flight)

theorem Works.completeNotes_counter (k : Fin 19) : (w.completeNotes f).notices.counters.get k =
    if 17 = k then countUp (w.notices.counters.get 17) else w.notices.counters.get k := by
  unfold Works.completeNotes Notices.count
  rw [Notices.subtract_counters]
  exact Bank.get_put ..

theorem Works.completeNotes_pending : (w.completeNotes f).notices.pending = (w.notices.subtract f.notes).pending := rfl

end Carried

/-! ### Own frames that complete (R127, R149, R158) -/

/-- `u` knows of the stations what `s` does: whom a miss concerns, and what it leaves. -/
structure State.SameMisses (s u : State) : Prop where
  cfg : u.cfg = s.cfg
  number : u.bus.number = s.bus.number
  state : ∀ n, (u.roster.get n).state = (s.roster.get n).state
  missed : ∀ n, (u.roster.get n).missed = (s.roster.get n).missed

section SameMisses

variable {s u : State} (same : s.SameMisses u)

include same

theorem State.SameMisses.departs : u.departs = s.departs := by
  funext j
  simp only [State.departs, State.counts, same.cfg, same.number, same.state, same.missed]

theorem State.SameMisses.missed_iff (anchor : Option Station) (k j : Station) : u.Missed anchor k j ↔ s.Missed anchor k j := by
  simp only [State.Missed, same.number, same.state]

theorem State.SameMisses.losesPublisher (anchor : Option Station) (k : Station) (i : Fin 6) :
    u.LosesPublisher anchor k i ↔ s.LosesPublisher anchor k i := by
  simp only [State.LosesPublisher, same.cfg, same.missed_iff]

end SameMisses

section Complete

variable (s : State) (f : Flight) (w : Works)

/-- The station when the own frame has ended, its consumer blocks being `w`. -/
def State.sent : State := (s.withBus { s.bus.afterFrame (some s.bus.number) 0 with flight := none, rxd := true }).withWorks w

/-- The own entry takes the HOLD flag that was sent (R160). -/
def State.sentHold : State :=
  (s.sent w).withEntry (stationIndex s.bus.number) { s.roster.get (stationIndex s.bus.number) with hold := f.hold }

theorem State.completeRoster_sent : (s.sent w).completeRoster s.bus.anchor f =
    ((s.sentHold f w).countMisses s.bus.anchor s.bus.number).refreshLines := rfl

/-- The own HOLD flag is no concern of a miss. -/
theorem State.sentHold_entry (n : Fin 32) :
    (s.sentHold f w).roster.get n =
      if stationIndex s.bus.number = n then { s.roster.get (stationIndex s.bus.number) with hold := f.hold }
      else s.roster.get n := Bank.get_put ..

theorem State.sentHold_sameMisses : s.SameMisses (s.sentHold f w) where
  cfg := rfl
  number := rfl
  state n := by
    rw [s.sentHold_entry]
    split
    · subst_vars; rfl
    · rfl
  missed n := by
    rw [s.sentHold_entry]
    split
    · subst_vars; rfl
    · rfl

/-- Nor of the line state (R164). -/
theorem State.sentHold_thinned : s.Thinned (s.sentHold f w) s.bus.number where
  cfg := rfl
  startup := rfl
  station := rfl
  number := rfl
  ownHold := rfl
  kept := (s.sentHold_sameMisses f w).state _
  fewer n there := (s.sentHold_sameMisses f w).state n ▸ there
  hold n other := by rw [s.sentHold_entry, if_neg other.symm]

/-- What a completion is to the roster, the mirrors, the windows and the lines. -/
structure State.Completes (t : State) : Prop where
  frame : t = { s with
    bus := { s.bus.afterFrame (some s.bus.number) 0 with flight := none, rxd := true }
    roster := t.roster, mirrors := t.mirrors
    works := { s.works with
      txQueue := s.works.txQueue.drop f.taken, notices := t.works.notices, windows := t.works.windows
      outputs := t.works.outputs, choice := t.works.choice } }
  own : t.roster.get (stationIndex s.bus.number) = { s.roster.get (stationIndex s.bus.number) with hold := f.hold }
  other : ∀ j, j ≠ s.bus.number →
    (s.Missed s.bus.anchor s.bus.number j →
      t.roster.get (stationIndex j) = s.missedEntry (s.roster.get (stationIndex j))) ∧
    (¬s.Missed s.bus.anchor s.bus.number j → t.roster.get (stationIndex j) = s.roster.get (stationIndex j))
  fading : ∃ l, s.Fading t l ((between s.bus.anchor s.bus.number).filter s.departs) t.lineCondition ∧
    ∀ i, i ∈ l ↔ (s.mirrors.get i).state = .active ∧ s.LosesPublisher s.bus.anchor s.bus.number i

/-- What it is to the notice unit, but for the notices of the losses: the carried counts are subtracted, the frame counted. -/
structure State.CompletesNotes (t : State) : Prop where
  counters : ∀ k, k ≠ 11 → k ≠ 13 → t.works.notices.counters.get k = (s.works.completeNotes f).notices.counters.get k
  pending : ∀ k : NoticeKind, k ≠ .stationLost → k ≠ .mirrorStale →
    t.works.notices.pending.get k.code = (s.works.completeNotes f).notices.pending.get k.code

/-- `w` is the blocks of `s` without the items in flight. -/
structure State.Sending : Prop where
  frame : w = { s.works with txQueue := s.works.txQueue.drop f.taken, notices := w.notices, choice := w.choice }
  stale : w.notices.counters.get 11 = s.works.notices.counters.get 11
  lost : w.notices.counters.get 13 = s.works.notices.counters.get 13

theorem State.sent_lossOnly : (s.sent w).LossOnly ((s.sent w).completeRoster s.bus.anchor f) :=
  ((State.withEntry_lossOnly _ _ _).trans (State.countMisses_lossOnly ..)).trans (State.refreshLines_lossOnly _)

theorem State.sent_roster (n : Fin 32) : ((s.sent w).completeRoster s.bus.anchor f).roster.get n =
    ((s.sentHold f w).countMisses s.bus.anchor s.bus.number).roster.get n := rfl

theorem State.sent_active (i : Fin 6) :
    (((s.sent w).completeRoster s.bus.anchor f).mirrors.get i).state = .active ↔
      (s.mirrors.get i).state = .active ∧ ¬s.LosesPublisher s.bus.anchor s.bus.number i := by
  rw [State.completeRoster_sent, State.refreshLines_mirrors, State.countMisses_active,
    (s.sentHold_sameMisses f w).losesPublisher]
  rfl

variable {s f w}

theorem State.Sending.fading (sending : s.Sending f w) :
    ∃ l, s.Fading ((s.sent w).completeRoster s.bus.anchor f) l ((between s.bus.anchor s.bus.number).filter s.departs)
      ((s.sent w).completeRoster s.bus.anchor f).lineCondition := by
  have windows : w.windows = s.works.windows := by rw [sending.frame]
  have outputs : w.outputs = s.works.outputs := by rw [sending.frame]
  have start : s.Fading (s.sentHold f w) [] [] s.lineCondition :=
    .start rfl rfl sending.stale sending.lost windows outputs
  obtain ⟨l, c, losing⟩ := (State.Losing.start start (s.sentHold_thinned f w)).countMisses s.bus.anchor
  rw [(s.sentHold_sameMisses f w).departs] at losing
  exact ⟨l, losing.refreshLines.toFading⟩

theorem State.Sending.completes (sending : s.Sending f w) :
    s.Completes f ((s.sent w).completeRoster s.bus.anchor f) := by
  have same := s.sentHold_sameMisses f w
  have roster (j : Station) := (s.sentHold f w).countMisses_roster s.bus.anchor s.bus.number j
  obtain ⟨l, fading⟩ := sending.fading
  refine ⟨?frame, ?own, fun j other => ?other, l, fading, fun i => ?mem⟩
  case frame =>
    have loss := (s.sent_lossOnly f w).frame
    generalize (s.sent w).completeRoster s.bus.anchor f = t at loss
    obtain ⟨n, c, rfl⟩ : ∃ n c, w = { s.works with txQueue := s.works.txQueue.drop f.taken, notices := n, choice := c } :=
      ⟨_, _, sending.frame⟩
    rw [loss]
    rfl
  case own =>
    rw [State.sent_roster, (roster s.bus.number).2, s.sentHold_entry, if_pos rfl]
    rintro ⟨a, -, -, -, -, other⟩
    exact other rfl
  case other =>
    rw [State.sent_roster, ← same.missed_iff]
    have entry : (s.sentHold f w).roster.get (stationIndex j) = s.roster.get (stationIndex j) := by
      rw [s.sentHold_entry, if_neg fun e => other (stationIndex_inj.mp e).symm]
    have missed := roster j
    rw [entry] at missed
    exact missed
  case mem =>
    rw [fading.mem_iff, ne_eq, State.sent_active]
    tauto

/-- The notice unit may take the completion after the roster. -/
theorem State.Completes.withNotices {t : State} (completes : s.Completes f t) {n : Notices}
    (stale : n.counters.get 11 = t.works.notices.counters.get 11)
    (lost : n.counters.get 13 = t.works.notices.counters.get 13) :
    s.Completes f (t.withWorks { t.works with notices := n }) := by
  obtain ⟨frame, own, other, l, fading, mem⟩ := completes
  exact ⟨by rw [frame]; rfl, own, other, l, fading.same rfl rfl stale lost rfl rfl, mem⟩

theorem State.LossOnly.completesNotes {u t : State} (loss : u.LossOnly t)
    (notices : u.works.notices = (s.works.completeNotes f).notices) : s.CompletesNotes f t :=
  ⟨fun k stale lost => notices ▸ loss.counters k stale lost, fun k lost stale => notices ▸ loss.pending k lost stale⟩

/-- The subtraction may come after the losses: it leaves their counters, and what it makes of another record is the same. -/
theorem State.LossOnly.notesComplete {u t : State} (loss : u.LossOnly t) (notices : u.works.notices = s.works.notices) :
    s.CompletesNotes f (t.withWorks (t.works.completeNotes f)) := by
  refine ⟨fun k stale lost => ?_, fun k lost stale => ?_⟩
  · have sent := loss.counters 17 (by decide) (by decide)
    have kept := loss.counters k stale lost
    rw [notices] at sent kept
    rw [State.withWorks_works, Works.completeNotes_counter, Works.completeNotes_counter, sent, kept]
  · have kept := loss.pending k lost stale
    rw [notices] at kept
    rw [State.withWorks_works, Works.completeNotes_pending, Works.completeNotes_pending]
    exact Notices.subtract_congr _ kept

/-- The notice unit takes the completion before the roster or after it (R195, R196). -/
theorem State.completeFrame_cases (s : State) (f : Flight) :
    ∃ c,
      let w : Works := { s.works with txQueue := s.works.txQueue.drop f.taken, choice := c }
      s.completeFrame f = (s.sent (w.completeNotes f)).completeRoster s.bus.anchor f ∨
        s.completeFrame f = ((s.sent w).completeRoster s.bus.anchor f).withWorks
          (((s.sent w).completeRoster s.bus.anchor f).works.completeNotes f) := by
  unfold State.completeFrame State.sent
  rw [Bus.frameEnded_eq]
  dsimp only
  split
  · exact ⟨s.works.choice, .inl rfl⟩
  · refine ⟨s.works.choice + 1, ?_⟩
    split
    · exact .inl rfl
    · exact .inr rfl

/-- In either order the completion comes to the same. -/
theorem State.completeFrame_completes (s : State) (f : Flight) :
    s.Completes f (s.completeFrame f) ∧ s.CompletesNotes f (s.completeFrame f) := by
  have stale (w : Works) : (w.completeNotes f).notices.counters.get 11 = w.notices.counters.get 11 :=
    (w.completeNotes_counter f 11).trans (if_neg (by decide))
  have lost (w : Works) : (w.completeNotes f).notices.counters.get 13 = w.notices.counters.get 13 :=
    (w.completeNotes_counter f 13).trans (if_neg (by decide))
  obtain ⟨c, before | after⟩ := s.completeFrame_cases f
  · rw [before]
    exact ⟨State.Sending.completes ⟨rfl, stale _, lost _⟩, (s.sent_lossOnly f _).completesNotes rfl⟩
  · have sending : s.Sending f { s.works with txQueue := s.works.txQueue.drop f.taken, choice := c } := ⟨rfl, rfl, rfl⟩
    rw [after]
    exact ⟨sending.completes.withNotices (stale _) (lost _), (s.sent_lossOnly f _).notesComplete rfl⟩

end Complete

/-- Settles O33: `State.Completes` and `State.CompletesNotes` hold in whichever order the notice unit and the roster take the
completion. -/
theorem frameCompletes : Obligations.FrameCompletes := by
  intro s f sending stays
  have complete : s.complete = s.completeFrame f := by
    rw [State.complete, sending]
    exact if_neg (by simp [stays])
  obtain ⟨completes, notes⟩ := s.completeFrame_completes f
  refine ⟨s.completeFrame f, by rw [exec_completion, complete], ?_⟩
  generalize s.completeFrame f = t at completes notes
  obtain ⟨frame, own, other, l, fading, mem⟩ := completes
  have sent := notes.counters 17 (by decide) (by decide)
  have others (k : Fin 19) (stale : k ≠ 11) (lost : k ≠ 13) (frames : k ≠ 17) :
      t.works.notices.counters.get k = s.works.notices.counters.get k := by
    rw [notes.counters k stale lost, Works.completeNotes_counter, if_neg frames.symm]
  have bus : t.bus = { s.bus.afterFrame (some s.bus.number) 0 with flight := none, rxd := true } := by rw [frame]
  refine ⟨bus, fun rotating => ?wait, by rw [frame], by rw [frame], by rw [frame], by rw [frame], by rw [frame],
    by rw [frame], by rw [frame], by rw [frame], by rw [frame], fun below => ?sent, fun once k n mem lost stale => ?carried,
    fun k none lost stale => ?kept, own, others 16 (by decide) (by decide) (by decide),
    ⟨l, _, fading.once, s.goneBy_between .., fading.loses fun k stale lost _ frames => others k stale lost frames, mem⟩, other⟩
  case wait =>
    have below := s.bus.number.isLt
    have turn : 24 + 64 * ((s.bus.number.toNat + 31 - s.bus.number.toNat + 32) % 32) = 2008 := by omega
    rw [bus, ← turn]
    exact if_pos rotating
  case sent =>
    rw [sent, Works.completeNotes_counter, if_pos rfl, countUp]
    omega
  case carried => rw [notes.pending k lost stale, Works.completeNotes_pending, Notices.subtract_carried _ _ once mem]
  case kept => rw [notes.pending k lost stale, Works.completeNotes_pending, Notices.subtract_other _ _ none]

end Sys2Proof.Machine
end

section
/-! The layouts of section 8.10 read back: fields that share a byte, quantities of several bytes, and what AXIS, TAG and RSP items
and actions carry. -/

namespace Sys2Proof.Machine

/-! ### Fields that share a byte -/

/-- The field in the low bits. -/
theorem extractLsb'_low {n : Nat} (within : n ≤ 8) (hi : Byte) (lo : BitVec n) :
    (hi <<< n ||| lo.zeroExtend 8).extractLsb' 0 n = lo := by
  ext i below
  simp [below, show i < 8 by omega]

/-- The field above it. -/
theorem extractLsb'_high {m n : Nat} (within : n + m ≤ 8) (hi : Byte) (lo : BitVec n) :
    (hi <<< n ||| lo.zeroExtend 8).extractLsb' n m = hi.extractLsb' 0 m := by
  ext i below
  simp [show n + i < 8 by omega, BitVec.getLsbD_eq_getElem (show i < 8 by omega)]

/-- A field alone in its byte. -/
theorem extractLsb'_alone {n : Nat} (within : n ≤ 8) (x : BitVec n) : (x.zeroExtend 8).extractLsb' 0 n = x := by
  ext i below
  simp [below, show i < 8 by omega]

/-! ### Quantities of several bytes (R144) -/

theorem be16_bytes16 (x : BitVec 16) : be16 (x.extractLsb' 8 8) (x.extractLsb' 0 8) = x :=
  BitVec.extractLsb'_append_extractLsb' (w := 8) (len := 8)

theorem be32_bytes32 (x : BitVec 32) :
    be32 (x.extractLsb' 24 8) (x.extractLsb' 16 8) (x.extractLsb' 8 8) (x.extractLsb' 0 8) = x := by
  rw [be32, BitVec.extractLsb'_append_extractLsb'_eq_extractLsb' (start₂ := 24) (start₁ := 16) rfl,
    BitVec.extractLsb'_append_extractLsb'_eq_extractLsb' (start₂ := 16) (start₁ := 8) rfl]
  exact BitVec.extractLsb'_append_extractLsb' (w := 24) (len := 8)

/-! ### AXIS reports (R104) -/

/-- The first byte of an AXIS body carries the fault, the kind and the line axis. -/
theorem axisByte_fields : ∀ (faulted ring : Bool) (id : BitVec 6),
    let b := (bit faulted <<< 7) ||| (bit ring <<< 6) ||| id.zeroExtend 8
    b.getLsbD 7 = faulted ∧ b.getLsbD 6 = ring ∧ b.extractLsb' 0 6 = id := by decide

theorem directionOf_directionCode (d : Option Direction) : directionOf ((directionCode d).extractLsb' 0 2) = d := by
  match d with
  | none => rfl
  | some .fwd => rfl
  | some .rev => rfl

theorem axisReportOf_axisBody (r : AxisReport) : axisReportOf (axisBody r) = some r := by
  obtain ⟨faulted, kind, lineAxis, direction, epoch, position⟩ := r
  obtain ⟨fault, ring, axis⟩ := axisByte_fields faulted (decide (kind = .ring)) lineAxis
  simp only [axisBody, bytes32, List.cons_append, List.nil_append, axisReportOf, fault, ring, axis, be32_bytes32,
    extractLsb'_low (n := 4) (by omega), extractLsb'_high (n := 4) (m := 2) (by omega), directionOf_directionCode]
  cases kind <;> rfl

/-! ### Tags (R51) -/

theorem tagOf_tagBody (t : Tag) : tagOf (tagBody t) = some t := by
  simp only [tagBody, bytes16, bytes32, List.cons_append, List.nil_append, tagOf, be16_bytes16, be32_bytes32,
    extractLsb'_low (n := 5) (by omega), extractLsb'_high (n := 5) (m := 2) (by omega),
    extractLsb'_low (n := 4) (by omega), extractLsb'_high (n := 4) (m := 4) (by omega), extractLsb'_alone (n := 6) (by omega),
    extractLsb'_alone (n := 2) (by omega), extractLsb'_alone (n := 4) (by omega)]

/-! ### Actions (R154) -/

/-- The first byte of an action carries that it is present, its operation and its line. -/
theorem actionByte_fields : ∀ (op : Fin 4) (line : Fin 8),
    let b : Byte := 0x80#8 ||| (BitVec.ofNat 8 op.val <<< 4) ||| BitVec.ofNat 8 line.val
    b.getLsbD 7 = true ∧ (b.extractLsb' 4 2).toNat = op.val ∧ (b.extractLsb' 0 3).toFin = line := by decide

/-- A byte that carries them is read as an action of that line. -/
theorem actionOf_present {b0 : Byte} {op : Fin 4} {line : Fin 8}
    (fields : b0.getLsbD 7 = true ∧ (b0.extractLsb' 4 2).toNat = op.val ∧ (b0.extractLsb' 0 3).toFin = line) (b1 b2 : Byte) :
    actionOf b0 b1 b2 = some ⟨line,
      if op = 0 then .set else if op = 1 then .clear else if op = 2 then .pulseTime (be16 b1 b2)
      else .pulseDist (be16 b1 b2)⟩ := by
  obtain ⟨present, operation, named⟩ := fields
  rw [actionOf, if_pos present, operation, named]
  match op with
  | 0 => rfl
  | 1 => rfl
  | 2 => rfl
  | 3 => rfl

/-- An action is three bytes, which read back as it. -/
theorem actionOf_actionBytes (a : Option Action) :
    ∃ b0 b1 b2, actionBytes a = [b0, b1, b2] ∧ actionOf b0 b1 b2 = a := by
  cases a with
  | none => exact ⟨0, 0, 0, rfl, rfl⟩
  | some a =>
    obtain ⟨line, operation⟩ := a
    cases operation with
    | set => exact ⟨_, _, _, rfl, actionOf_present (actionByte_fields 0 line) 0 0⟩
    | clear => exact ⟨_, _, _, rfl, actionOf_present (actionByte_fields 1 line) 0 0⟩
    | pulseTime w => exact ⟨_, _, _, rfl, (actionOf_present (actionByte_fields 2 line) _ _).trans (by rw [be16_bytes16]; rfl)⟩
    | pulseDist w => exact ⟨_, _, _, rfl, (actionOf_present (actionByte_fields 3 line) _ _).trans (by rw [be16_bytes16]; rfl)⟩

/-- Settles O37: each layout field by field, and of a command code byte the five bits that stand below the result. -/
theorem layoutsRoundTrip : Obligations.LayoutsRoundTrip :=
  ⟨axisReportOf_axisBody, tagOf_tagBody, actionOf_actionBytes, fun r =>
    ⟨_, _, _, rfl, extractLsb'_alone (by omega) r.requester, rfl, extractLsb'_low (n := 5) (by omega) _ _,
      extractLsb'_high (n := 5) (by omega) _ _⟩⟩

end Sys2Proof.Machine
end

section
/-! Frames read back (R138 to R141): the walk through the items, the checks of acceptance, and the own frame as its peers judge it
(R147). -/

namespace Sys2Proof.Machine

/-! ### The walk (R141) -/

/-- An item as it stands in a frame. -/
def Item.bytes (i : Item) : List Byte := itemBytes i.kind i.body

/-- Its head byte has room for its kind and its length (R139). -/
def Item.Fits (i : Item) : Prop := i.kind < 16 ∧ i.body.length ≤ 15

/-- The head byte carries both. -/
theorem headOf_fields {kind length : Nat} (kinds : kind < 16) (short : length ≤ 15) :
    let head := BitVec.ofNat 8 (16 * kind + length)
    (head.extractLsb' 4 4).toNat = kind ∧ (head.extractLsb' 0 4).toNat = length := by
  simp only [BitVec.extractLsb'_toNat, BitVec.toNat_ofNat, Nat.shiftRight_eq_div_pow]
  omega

/-- The walk over items that fill the body finds them, each where the one before ended. -/
theorem walkItems_bytes (items : List Item) (fit : ∀ i ∈ items, i.Fits) :
    walkItems items.length (items.flatMap Item.bytes) = some items := by
  induction items with
  | nil => rfl
  | cons i rest ih =>
    obtain ⟨⟨kinds, short⟩, fit⟩ := List.forall_mem_cons.mp fit
    obtain ⟨kind, length⟩ := headOf_fields kinds short
    rw [List.flatMap_cons, Item.bytes, itemBytes, List.cons_append, List.length_cons, walkItems, kind, length]
    simp [ih fit]

/-! ### The checks of acceptance (R140, R141) -/

/-- Header byte 1 carries the source and the HOLD flag. -/
theorem headerByte_fields : ∀ (fault hold cfgOk : Bool) (source : Station),
    (headerByte fault hold cfgOk source).extractLsb' 0 5 = source ∧
      (headerByte fault hold cfgOk source).getLsbD 6 = hold := by decide

/-- A frame of at most 8 items and 120 body bytes passes every check but the walk, which then decides. -/
theorem judge_frameBytes (h1 : Byte) {count : Nat} {body : List Byte} (few : count ≤ 8) (short : body.length ≤ 120) :
    judge (frameBytes h1 count body) =
      (walkItems count body).map fun items => ⟨h1.extractLsb' 0 5, h1.getLsbD 6, items⟩ := by
  have counts : (BitVec.ofNat 8 count).toNat = count := by rw [BitVec.toNat_ofNat]; omega
  have length : (BitVec.ofNat 8 body.length).toNat = body.length := by rw [BitVec.toNat_ofNat]; omega
  simp only [frameBytes, List.cons_append, List.nil_append, judge, counts, length, List.take_left, List.drop_left]
  exact if_pos ⟨trivial, few, short, by simp [bytes16], trivial⟩

theorem judge_items (fault hold cfgOk : Bool) (source : Station) {items : List Item} (few : items.length ≤ 8)
    (fit : ∀ i ∈ items, i.Fits) (short : (items.flatMap Item.bytes).length ≤ 120) :
    judge (frameBytes (headerByte fault hold cfgOk source) items.length (items.flatMap Item.bytes)) =
      some ⟨source, hold, items⟩ := by
  obtain ⟨sender, flag⟩ := headerByte_fields fault hold cfgOk source
  rw [judge_frameBytes _ few short, walkItems_bytes items fit, sender, flag]
  rfl

/-- Settles O36, by the walk through the items (`walkItems_bytes`) once the other checks are passed (`judge_frameBytes`). -/
theorem frameRoundTrip : Obligations.FrameRoundTrip := fun fault hold cfgOk source _ few fit short =>
  judge_items fault hold cfgOk source few fit short

/-! ### The items of the own frame (R147) -/

/-- The bytes of an item that its head byte has room for. -/
def IsItem (bytes : List Byte) : Prop := ∃ i : Item, i.Fits ∧ i.bytes = bytes

theorem isItem_itemBytes {kind : Nat} {body : List Byte} (kinds : kind < 16) (short : body.length ≤ 15) :
    IsItem (itemBytes kind body) := ⟨⟨kind, body⟩, ⟨kinds, short⟩, rfl⟩

/-- What is made of items one by one is made of a list of items. -/
theorem exists_items {pieces : List (List Byte)} (all : ∀ p ∈ pieces, IsItem p) :
    ∃ items : List Item, (∀ i ∈ items, i.Fits) ∧ items.map Item.bytes = pieces := by
  induction pieces with
  | nil => exact ⟨[], nofun, rfl⟩
  | cons p rest ih =>
    obtain ⟨⟨i, fits, rfl⟩, others⟩ := List.forall_mem_cons.mp all
    obtain ⟨items, fit, rfl⟩ := ih others
    exact ⟨i :: items, List.forall_mem_cons.mpr ⟨fits, fit⟩, rfl⟩

/-- What holds of the AXIS item of each local axis holds of those of the frame. -/
theorem State.forall_axisItems {s : State} {P : List Byte → Prop} (one : ∀ i, ∀ p ∈ (s.axisItem i).toList, P p) :
    ∀ p ∈ s.axisItems, P p := by
  unfold State.axisItems
  split
  · exact List.forall_mem_append.mpr ⟨one 0, one 1⟩
  · exact nofun

theorem State.axisItems_isItem (s : State) : ∀ p ∈ s.axisItems, IsItem p :=
  State.forall_axisItems fun i => by
    unfold State.axisItem
    dsimp only
    split
    · rw [Option.toList_some, List.forall_mem_singleton]
      exact isItem_itemBytes (by omega) (Nat.le_of_ble_eq_true rfl)
    · exact nofun

theorem State.noteItems_isItem (s : State) : ∀ p ∈ s.noteItems, IsItem p := by
  have seven : s.noteList.length ≤ 7 := List.length_take_le ..
  unfold State.noteItems
  split
  · exact nofun
  · rw [List.forall_mem_singleton]
    exact isItem_itemBytes (by omega) (by rw [noteBody_length]; omega)

/-- An item of the transmit queue takes 10 bytes, a response up to 6 more. -/
theorem TxItem.bytes_isItem {i : TxItem} (short : ∀ r, i = .rsp r → r.data.length ≤ 12) :
    IsItem i.bytes ∧ i.bytes.length ≤ 10 + if i.isTag then 0 else 6 := by
  cases i with
  | tag t => exact ⟨isItem_itemBytes (by omega) (Nat.le_of_ble_eq_true rfl), Nat.le_refl 10⟩
  | rsp r =>
    have data := short r rfl
    have length : (responseBody r).length = r.data.length + 3 := rfl
    exact ⟨isItem_itemBytes (by omega) (by omega), by simp [TxItem.bytes, itemBytes, TxItem.isTag]; omega⟩

/-- Items of the transmit queue take 10 bytes each, and 6 more for each response. -/
theorem txBytes_length {l : List TxItem} (short : ∀ r, .rsp r ∈ l → r.data.length ≤ 12) :
    (txBytes l).length ≤ 10 * l.length + 6 * l.countP fun i => !i.isTag := by
  induction l with
  | nil => exact Nat.le_refl 0
  | cons i rest ih =>
    have rest := ih fun r mem => short r (List.mem_cons_of_mem i mem)
    obtain ⟨-, one⟩ := TxItem.bytes_isItem (i := i) fun r e => short r (e ▸ List.mem_cons_self)
    rw [txBytes_cons, List.length_append, List.length_cons, List.countP_cons]
    cases tag : i.isTag with
    | true => simp [tag] at one ⊢; omega
    | false => simp [tag] at one ⊢; omega

/-- What leads them takes at most 10 bytes an item, and 5 more for a full NOTE item. -/
theorem State.lead_length (s : State) :
    (s.axisItems ++ s.noteItems).flatten.length ≤ 10 * (s.axisItems ++ s.noteItems).length + 5 := by
  have axes : s.axisItems.flatten.length ≤ 10 * s.axisItems.length := by
    have seven : ∀ n ∈ s.axisItems.map List.length, n ≤ 10 :=
      List.forall_mem_map.mpr (State.forall_axisItems fun i p mem => by rw [s.axisItem_length i mem]; omega)
    simpa [List.length_flatten, Nat.mul_comm] using List.sum_le_card_nsmul _ _ seven
  have notes : s.noteItems.flatten.length ≤ 10 * s.noteItems.length + 5 := by
    obtain ⟨one, bytes⟩ := s.noteItems_length
    cases none : s.noteItems with
    | nil => exact Nat.zero_le _
    | cons p rest =>
      rw [none] at bytes
      rw [List.length_cons]
      omega
  rw [List.flatten_append, List.length_append, List.length_append]
  omega

/-- The items of the own frame: what leads, and what the transmit queue gives. -/
def State.ownItems (s : State) : List (List Byte) :=
  s.axisItems ++ s.noteItems ++ (s.works.txQueue.take s.assemble.taken).map TxItem.bytes

theorem State.assemble_bytes (s : State) :
    s.assemble.bytes =
      frameBytes (headerByte s.faultFlag s.ownHold s.valid s.bus.number) s.ownItems.length s.ownItems.flatten := rfl

theorem frameBytes_length (h1 : Byte) (count : Nat) (body : List Byte) :
    (frameBytes h1 count body).length = body.length + 6 := by
  simp [frameBytes, bytes16]

section Own

variable {s : State} (sound : s.TxSound)
include sound

theorem State.ownItems_isItem : ∀ p ∈ s.ownItems, IsItem p := by
  obtain ⟨-, -, short, -⟩ := sound
  refine List.forall_mem_append.mpr ⟨List.forall_mem_append.mpr ⟨s.axisItems_isItem, s.noteItems_isItem⟩,
    List.forall_mem_map.mpr fun i mem => ?_⟩
  exact (TxItem.bytes_isItem fun r e => short r (e ▸ List.mem_of_mem_take mem)).1

/-- At most 8 items of 10 bytes each, with 5 more for the NOTE item and 6 for each of 4 responses. -/
theorem State.ownItems_length : s.ownItems.length ≤ 8 ∧ s.ownItems.flatten.length ≤ 109 := by
  obtain ⟨-, places, short, -⟩ := sound
  have axes := s.axisItems_length
  have notes := s.noteItems_length
  have lead := s.lead_length
  have count : (s.axisItems ++ s.noteItems).length ≤ 8 := by rw [List.length_append]; omega
  have size : (s.axisItems ++ s.noteItems).flatten.length ≤ 120 := by rw [List.flatten_append, List.length_append]; omega
  obtain ⟨few, within, -, -⟩ := takeItems_fits _ _ s.works.txQueue count size
  have taken : (s.works.txQueue.take s.assemble.taken).length = s.assemble.taken := List.length_take_of_le within
  have responses : (s.works.txQueue.take s.assemble.taken).countP (fun i => !i.isTag) ≤ 4 :=
    ((List.take_sublist ..).countP_le).trans places
  have bytes := txBytes_length (l := s.works.txQueue.take s.assemble.taken) fun r mem => short r (List.mem_of_mem_take mem)
  change _ + s.assemble.taken ≤ 8 at few
  refine ⟨?_, ?_⟩
  · rwa [State.ownItems, List.length_append, List.length_map, taken]
  · rw [State.ownItems, List.flatten_append, List.length_append]
    change _ + (txBytes _).length ≤ 109
    omega

end Own

/-- Settles O32: the items of the own frame are items (`State.ownItems_isItem`), few and short enough (`State.ownItems_length`) that
the frame is judged valid as any frame of items is (`judge_items`). -/
theorem ownFrameIsAccepted : Obligations.OwnFrameIsAccepted := by
  intro s sound
  obtain ⟨few, short⟩ := State.ownItems_length sound
  obtain ⟨items, fit, bytes⟩ := exists_items (State.ownItems_isItem sound)
  have count : items.length = s.ownItems.length := by rw [← bytes, List.length_map]
  have body : items.flatMap Item.bytes = s.ownItems.flatten := by rw [← bytes]; rfl
  refine ⟨by rw [State.assemble_bytes, frameBytes_length]; omega, items, by omega, ?_, bytes⟩
  rw [State.assemble_bytes, ← count, ← body]
  exact judge_items _ _ _ _ (by omega) fit (by rw [body]; omega)

end Sys2Proof.Machine
end

section
/-! The items of a frame (R142, R143): what an item of each kind does to the station, which command a CMD item gives, and the check
of R112 after the last. -/

namespace Sys2Proof.Machine

/-! ### Bodies by their length (R143) -/

section Bodies

variable {body : List Byte}

theorem axisReportOf_unfit (other : body.length ≠ 6) : axisReportOf body = none := by
  unfold axisReportOf
  split
  · exact absurd rfl other
  · rfl

theorem exists_axisReportOf (six : body.length = 6) : ∃ r, axisReportOf body = some r :=
  match body, six with
  | [_, _, _, _, _, _], _ => ⟨_, rfl⟩

theorem tagOf_unfit (other : body.length ≠ 9) : tagOf body = none := by
  unfold tagOf
  split
  · exact absurd rfl other
  · rfl

theorem exists_tagOf (nine : body.length = 9) : ∃ t, tagOf body = some t :=
  match body, nine with
  | [_, _, _, _, _, _, _, _, _], _ => ⟨_, rfl⟩

theorem cmdItemOf_unfit (short : body.length < 3) : cmdItemOf body = none := by
  unfold cmdItemOf
  split
  · simp only [List.length_cons] at short
    omega
  · rfl

end Bodies

/-! ### Commands by their code and parameters (R153, R177) -/

section Commands

variable {code : Byte} {p : List Byte}

theorem exec_unknownCommand (s : State) (requester : Station) (tid : Byte) :
    exec (.unknownCommand requester tid code) s = .next (s.takeCommand requester tid (cmdOf code [])) := rfl

theorem cmdOf_unknown (beyond : code = 0 ∨ 13 < code.toNat) : cmdOf code p = .unknown code := by
  have none : code.toNat = 0 ∨ 13 < code.toNat := beyond.imp_left (congrArg BitVec.toNat)
  unfold cmdOf
  split
  on_goal 14 => rfl
  all_goals omega

/-- How many parameter bytes the command of a code has at least (section 8.10). -/
def parameterBytes (code : Nat) : Nat := [0, 2, 2, 6, 5, 9, 4, 5, 6, 11, 1, 0, 3, 0].getD code 0

/-- A known command whose parameters end before its list does: its reader finds no match. CLEAR_COUNTS (0Bh) and RESTART (0Dh) have
an empty list, which no parameters fall short of. -/
theorem cmdOf_short {k : Nat} (first : 1 ≤ k) (last : k ≤ 13) (short : p.length < parameterBytes k) :
    cmdOf (BitVec.ofNat 8 k) p = .unfit (BitVec.ofNat 8 k) := by
  interval_cases k
  on_goal 13 => exact absurd short (Nat.not_lt_zero _)
  on_goal 11 => exact absurd short (Nat.not_lt_zero _)
  all_goals
    simp only [cmdOf, BitVec.toNat_ofNat, Nat.reducePow, Nat.reduceMod, readStatusOf, readQueueOf, trimCamOf, trimRuleOf,
      trimWindowOf, armOf, setOriginOf, armIndexOf, injectEntryOf, clearQueueOf, pulseOutputOf]
    split
    on_goal 2 => rfl
    simp only [parameterBytes, List.getD_cons_succ, List.getD_cons_zero, List.length_cons] at short
    omega

/-- ARM takes selectors 0 and 1 alone. -/
theorem armOf_beyond (beyond : 1 < (p.getD 0 0).toNat) : armOf p = .unfit 6 := by
  unfold armOf
  split
  · rename_i selector index arm start rest
    have none : selector ≠ 0 := by rintro rfl; simp at beyond
    have other : selector ≠ 1 := by rintro rfl; simp at beyond
    rw [if_neg none, if_neg other]
  · rfl

/-- ARM_INDEX takes modes 0 and 1 alone. -/
theorem armIndexOf_beyond (beyond : 1 < (p.getD 1 0).toNat) : armIndexOf p = .unfit 8 := by
  unfold armIndexOf
  split
  · rename_i handle mode b0 b1 b2 b3 rest
    have none : mode ≠ 0 := by rintro rfl; simp at beyond
    have other : mode ≠ 1 := by rintro rfl; simp at beyond
    rw [if_neg none, if_neg other]
  · rfl

/-- A known command with too few parameter bytes, or with a selector or mode that names nothing. -/
theorem cmdOf_unfit (first : 1 ≤ code.toNat) (last : code.toNat ≤ 13)
    (unfit : p.length < parameterBytes code.toNat ∨ (code = 6 ∧ 1 < (p.getD 0 0).toNat) ∨
      (code = 8 ∧ 1 < (p.getD 1 0).toNat)) : cmdOf code p = .unfit code := by
  rcases unfit with short | ⟨rfl, beyond⟩ | ⟨rfl, beyond⟩
  · have same : BitVec.ofNat 8 code.toNat = code := by simp
    rw [← same]
    exact cmdOf_short first last short
  · exact armOf_beyond beyond
  · exact armIndexOf_beyond beyond

end Commands

/-! ### One item (R142, R143) -/

section Item

variable (s : State) (source : Station) (taken : List (Fin 6)) {body : List Byte}

theorem State.applyItem_axis {r : AxisReport} (report : axisReportOf body = some r) :
    s.applyItem source taken ⟨1, body⟩ =
      ((s.applyAxisItem source r).1.toList ++ taken, (s.applyAxisItem source r).2) := by
  simp only [State.applyItem, report]

theorem State.applyItem_axis_unfit (other : body.length ≠ 6) :
    s.applyItem source taken ⟨1, body⟩ = (taken, s.raise .badFrame) := by
  simp only [State.applyItem, axisReportOf_unfit other]

theorem State.applyItem_tag {t : Tag} (tag : tagOf body = some t) :
    s.applyItem source taken ⟨2, body⟩ =
      if s.bus.station = .rotating ∧ s.valid then (taken, s.withWorks (s.works.remoteTag s.env t)) else (taken, s) := by
  simp only [State.applyItem, tag]

theorem State.applyItem_tag_unfit (other : body.length ≠ 9) :
    s.applyItem source taken ⟨2, body⟩ = (taken, s.raise .badFrame) := by
  simp only [State.applyItem, tagOf_unfit other]

theorem State.applyItem_cmd (target tid code : Byte) (p : List Byte) :
    s.applyItem source taken ⟨3, target :: tid :: code :: p⟩ =
      if target.extractLsb' 0 5 = s.bus.number then (taken, s.takeCommand source tid (cmdOf code p)) else (taken, s) := rfl

theorem State.applyItem_cmd_unfit (short : body.length < 3) :
    s.applyItem source taken ⟨3, body⟩ = (taken, s.raise .badFrame) := by
  simp only [State.applyItem, cmdItemOf_unfit short]

/-- Items of the other kinds are skipped. -/
theorem State.applyItem_other {kind : Nat} (other : kind = 0 ∨ 3 < kind) :
    s.applyItem source taken ⟨kind, body⟩ = (taken, s) := by
  unfold State.applyItem
  split
  on_goal 4 => rfl
  all_goals
    rename_i named
    dsimp only at named
    omega

end Item

/-! ### The mirrors without a report (R111, R112) -/

section Stale

variable (s : State)

/-- The ACTIVE mirrors of station `n` but for those in `keep`. -/
def State.unreported (n : Station) (keep : List (Fin 6)) (i : Fin 6) : Bool :=
  decide ((s.mirrors.get i).state = .active) && (s.cfg.publishes n i && !keep.contains i)

theorem State.unreported_iff (n : Station) (keep : List (Fin 6)) (i : Fin 6) :
    s.unreported n keep i = true ↔ (s.mirrors.get i).state = .active ∧ i ∉ keep ∧
      ∃ id, (s.cfg.mirrors.get i).lineAxis = some id ∧ publisher id = n := by
  rw [← Settings.publishes_iff]
  simp [State.unreported, and_comm]

/-- A mirror that goes STALE leaves every other. -/
theorem State.goesStale_mirrors (i j : Fin 6) :
    (s.goesStale i).mirrors.get j =
      if i = j then { s.mirrors.get i with state := .stale } else s.mirrors.get j := Bank.get_put ..

theorem State.goesStale_cfg (i : Fin 6) : (s.goesStale i).cfg = s.cfg := rfl

theorem State.goesStale_unreported (n : Station) (keep : List (Fin 6)) {i j : Fin 6} (other : i ≠ j) :
    (s.goesStale i).unreported n keep j = s.unreported n keep j := by
  rw [State.unreported, State.goesStale_mirrors, if_neg other, State.goesStale_cfg, State.unreported]

/-- The mirrors of a list go STALE, each for itself. -/
theorem State.goStale_mirrors (l : List (Fin 6)) (j : Fin 6) :
    (l.foldl State.goesStale s).mirrors.get j =
      if j ∈ l then { s.mirrors.get j with state := .stale } else s.mirrors.get j := by
  induction l generalizing s with
  | nil => simp
  | cons i rest ih =>
    rw [List.foldl_cons, ih, State.goesStale_mirrors]
    by_cases same : i = j
    · subst same; simp
    · simp [same, Ne.symm same]

/-- Walking over mirrors, those that are to go STALE can be told at the start. -/
theorem State.staleList_eq (n : Station) (keep : List (Fin 6)) {l : List (Fin 6)} (once : l.Nodup) :
    l.foldl (fun s i => if s.cfg.publishes n i && !keep.contains i then s.staleMirror i else s) s =
      (l.filter (s.unreported n keep)).foldl State.goesStale s := by
  induction l generalizing s with
  | nil => rfl
  | cons i rest ih =>
    obtain ⟨fresh, once⟩ := List.nodup_cons.mp once
    have stays : s.unreported n keep i = false →
        (if s.cfg.publishes n i && !keep.contains i then s.staleMirror i else s) = s := fun passed => by
      split
      · rename_i named
        exact if_neg fun on => by rw [State.unreported, on, named] at passed; exact absurd passed (by simp)
      · rfl
    rw [List.foldl_cons]
    cases goes : s.unreported n keep i with
    | false => rw [stays goes, ih s once, List.filter_cons_of_neg (by simp [goes])]
    | true =>
      obtain ⟨on, named⟩ := Bool.and_eq_true_iff.mp goes
      have others : rest.filter ((s.goesStale i).unreported n keep) = rest.filter (s.unreported n keep) :=
        List.filter_congr fun j mem => s.goesStale_unreported n keep (ne_of_mem_of_not_mem mem fresh).symm
      rw [if_pos named, State.staleMirror_eq (of_decide_eq_true on), ih (s.goesStale i) once, others,
        List.filter_cons_of_pos goes, List.foldl_cons]

/-- All of them. -/
def State.allUnreported (n : Station) (keep : List (Fin 6)) : List (Fin 6) := (List.finRange 6).filter (s.unreported n keep)

theorem State.allUnreported_nodup (n : Station) (keep : List (Fin 6)) : (s.allUnreported n keep).Nodup :=
  (List.nodup_finRange 6).filter _

theorem State.mem_allUnreported (n : Station) (keep : List (Fin 6)) (i : Fin 6) :
    i ∈ s.allUnreported n keep ↔ (s.mirrors.get i).state = .active ∧ i ∉ keep ∧
      ∃ id, (s.cfg.mirrors.get i).lineAxis = some id ∧ publisher id = n := by
  rw [State.allUnreported, List.mem_filter, State.unreported_iff]
  exact and_iff_right (List.mem_finRange i)

/-- The check of R112: the ACTIVE mirrors of the source without a report go STALE one after another. -/
theorem State.stalePublished_eq (n : Station) (keep : List (Fin 6)) :
    s.stalePublished n keep = (s.allUnreported n keep).foldl State.goesStale s :=
  s.staleList_eq n keep (List.nodup_finRange 6)

end Stale

/-! ### The header before the items (R131, R157) -/

theorem State.join_cfg (s : State) : s.join.cfg = s.cfg := rfl

section Header

variable {s : State} {f : Frame}

/-- The station that the header has left, a number of free values taken. -/
def State.drawn (s : State) (f : Frame) (c : Nat) : State :=
  (s.headed f).withWorks { (s.headed f).works with choice := c }

/-- One that joins does so after the body or before it, every other applies the body alone. -/
theorem State.acceptFrame_drawn (s : State) (f : Frame) : ∃ c,
    (s.bus.station ≠ .listening ∨ f.source ∉ s.bus.joined → s.acceptFrame f = (s.drawn f c).applyBody f) ∧
    (s.bus.station = .listening → f.source ∈ s.bus.joined →
      s.acceptFrame f = ((s.drawn f c).applyBody f).join ∨ s.acceptFrame f = (s.drawn f c).join.applyBody f) := by
  unfold State.acceptFrame
  dsimp only
  split
  · rename_i joins
    obtain ⟨listening, known⟩ : s.bus.station = .listening ∧ f.source ∈ s.bus.joined := by simpa using joins
    have alone : ¬(s.bus.station ≠ .listening ∨ f.source ∉ s.bus.joined) := by simp [listening, known]
    split
    · exact ⟨(s.headed f).works.choice, fun first => absurd first alone, fun _ _ => .inl rfl⟩
    · refine ⟨(s.headed f).works.choice + 1, fun first => absurd first alone, fun _ _ => ?_⟩
      split
      · exact .inl rfl
      · exact .inr rfl
  · rename_i stays
    exact ⟨(s.headed f).works.choice, fun _ => rfl, fun listening known => absurd (by simp [listening, known]) stays⟩

/-- What no header reaches. -/
theorem State.drawn_parts (s : State) (f : Frame) (c : Nat) :
    let u := s.drawn f c
    u.startup = s.startup ∧ u.axes = s.axes ∧ u.rules = s.rules ∧ u.command = s.command ∧ u.nextSequence = s.nextSequence ∧
      u.works.queues = s.works.queues ∧ u.works.txQueue = s.works.txQueue ∧ u.works.rings = s.works.rings := by
  have frame := (s.headed_lossOnly f).frame
  unfold State.drawn
  generalize s.headed f = t at frame
  rw [frame]
  exact ⟨rfl, rfl, rfl, rfl, rfl, rfl, rfl, rfl⟩

/-- What the header has left when the items begin: but for the bus controller, the roster and the count of the frame, what its
misses do (R158, R159). -/
theorem State.drawn_fading (s : State) (f : Frame) (c : Nat) :
    ∃ l, s.Fading (s.drawn f c) l ((between s.bus.anchor f.source).filter s.departs) (s.drawn f c).lineCondition ∧
      ∀ i, i ∈ l ↔ (s.mirrors.get i).state = .active ∧ s.LosesPublisher s.bus.anchor f.source i := by
  obtain ⟨l, fading⟩ := s.headed_fading f
  refine ⟨l, fading.same rfl rfl rfl rfl rfl rfl, fun i => ?_⟩
  rw [fading.mem_iff, ne_eq, State.headed_active]
  tauto

/-- A mirror whose station is not missed stays as it was. -/
theorem State.drawn_mirror {c : Nat} {i : Fin 6} (kept : ¬s.LosesPublisher s.bus.anchor f.source i) :
    (s.drawn f c).mirrors.get i = s.mirrors.get i := by
  obtain ⟨l, fading, mem⟩ := s.drawn_fading f c
  rw [fading.mirrors i, if_neg fun lost => kept ((mem i).mp lost).2]

/-- The misses raise no notices but their own, and the frame counts. -/
theorem State.drawn_counters {c : Nat} {k : Fin 19} (stale : k ≠ 11) (lost : k ≠ 13) (frames : k ≠ 16) :
    (s.drawn f c).works.notices.counters.get k = s.works.notices.counters.get k :=
  ((s.headed_lossOnly f).counters k stale lost).trans (Bank.get_put_ne _ _ frames.symm)

end Header

/-! ### The body of a frame (R142, R112) -/

section Body

variable (u : State) (f : Frame)

/-- The station after the items, with the mirrors that took a report. -/
def State.itemsLeft : List (Fin 6) × State :=
  f.items.foldl (fun p i => p.2.applyItem f.source p.1 i) ([], u)

theorem State.applyBody_eq : u.applyBody f = (u.itemsLeft f).2.stalePublished f.source (u.itemsLeft f).1 := by
  rw [State.applyBody, State.applyItems_eq]
  rfl

theorem State.itemsLeft_cfg : (u.itemsLeft f).2.cfg = u.cfg := by
  rw [State.itemsLeft, ← State.applyItems_eq]
  exact (u.applyItems_itemsOnly f.source [] f.items).parts.1

/-- What the body leaves: the items as they were applied, and after them the mirrors of the source without a report. -/
theorem State.applyBody_left :
    let p := u.itemsLeft f
    let t := u.applyBody f
    let lost (i : Fin 6) : Prop := (p.2.mirrors.get i).state = .active ∧ i ∉ p.1 ∧
      ∃ id, (u.cfg.mirrors.get i).lineAxis = some id ∧ publisher id = f.source
    t = { p.2 with mirrors := t.mirrors, works := t.works } ∧
      (∃ l : List (Fin 6), l.Nodup ∧ (∀ i, i ∈ l ↔ lost i) ∧ t = l.foldl State.goesStale p.2) ∧
      ∀ i,
        (lost i → t.mirrors.get i = { p.2.mirrors.get i with state := .stale }) ∧
        (¬lost i → t.mirrors.get i = p.2.mirrors.get i) := by
  intro p t lost
  have body : t = p.2.stalePublished f.source p.1 := u.applyBody_eq f
  have stale := body.trans (State.stalePublished_eq ..)
  have mem (i : Fin 6) : i ∈ p.2.allUnreported f.source p.1 ↔ lost i := by
    rw [State.mem_allUnreported, show p.2.cfg = u.cfg from u.itemsLeft_cfg f]
  have mirrors (i : Fin 6) := State.goStale_mirrors p.2 (p.2.allUnreported f.source p.1) i
  rw [← stale] at mirrors
  refine ⟨?_, ⟨_, State.allUnreported_nodup .., mem, stale⟩, fun i => ⟨fun gone => ?_, fun kept => ?_⟩⟩
  · rw [body]
    exact State.stalePublished_frame ..
  · rw [mirrors i, if_pos ((mem i).mpr gone)]
  · rw [mirrors i, if_neg fun gone => kept ((mem i).mp gone)]

end Body

/-- Settles O29. The header is `State.headed`, the body `State.applyBody_eq`, and the station that joins does so before or after it
(`State.acceptFrame_drawn`); an item goes by its kind and length, and a CMD item is the row of the command that `cmdOf` reads. -/
theorem itemsApplied : Obligations.ItemsApplied := by
  refine ⟨fun s bytes f hears judged valid other => ?frame, fun s source taken body => ?kinds,
    fun s source taken target tid code p => ?command⟩
  case frame =>
    intro applied
    have body (u : State) (cfg : u.cfg = s.cfg) : applied u (u.applyBody f) := by
      have left := u.applyBody_left f
      rw [cfg] at left
      exact left
    clear_value applied
    have stays := s.headed_stays f
    obtain ⟨c, first, joins⟩ := s.acceptFrame_drawn f
    obtain ⟨l, fading, mem⟩ := s.drawn_fading f c
    obtain ⟨startup, axes, rules, command, nextSequence, queues, txQueue, rings⟩ := s.drawn_parts f c
    have loses := fading.loses fun k stale lost frames _ => State.drawn_counters stale lost frames
    refine ⟨s.drawn f c, s.acceptFrame f, fading.cfg, startup, stays.station, stays.number, axes, rules, command, nextSequence,
      s.headed_source f, queues, txQueue, rings, fun i kept => State.drawn_mirror fun ⟨id, axis, missed⟩ => kept id axis missed,
      ⟨l, _, fading.once, s.goneBy_between .., loses, mem⟩, State.frame_accepted hears judged valid other, fun alone => ?_,
      fun listening known => (joins listening known).imp (fun after => ⟨_, body _ fading.cfg, after⟩) fun before => ?_⟩
    · rw [first alone]; exact body _ fading.cfg
    · rw [before]; exact body _ ((State.join_cfg _).trans fading.cfg)
  case kinds =>
    intro kinds
    refine ⟨s.applyItem_axis_unfit source taken, s.applyItem_tag_unfit source taken, s.applyItem_cmd_unfit source taken,
      fun kind => s.applyItem_other source taken, fun six => ?_, fun nine => ?_⟩
    · obtain ⟨r, report⟩ := exists_axisReportOf six
      exact ⟨r, report, s.applyItem_axis source taken report⟩
    · obtain ⟨x, tag⟩ := exists_tagOf nine
      have item := s.applyItem_tag source taken tag
      refine ⟨x, tag, fun rotating valid => item.trans (if_pos ⟨rotating, decide_eq_true valid⟩),
        fun none => item.trans (if_neg ?_)⟩
      exact fun ⟨rotating, valid⟩ => none.elim (· rotating) (· (of_decide_eq_true valid))
  case command =>
    intro r is
    have item : r = _ := s.applyItem_cmd source taken target tid code p
    by_cases here : target.extractLsb' 0 5 = s.bus.number
    case neg =>
      rw [if_neg here] at item
      exact ⟨by rw [item], fun _ => by rw [item], fun own => absurd own here⟩
    case pos =>
      rw [if_pos here] at item
      refine ⟨by rw [item], fun other => absurd here other, fun _ => ?_⟩
      have left : r.2 = s.takeCommand source tid (cmdOf code p) := by rw [item]
      have row {i : Instr} (taken : exec i s = .next (s.takeCommand source tid (cmdOf code p))) : is i := by
        rw [← left] at taken
        exact taken
      clear_value is r
      clear item
      refine ⟨?unknown, ?_, ?_, ?_, ?_, ?_, fun _ _ _ _ _ => ⟨?_, ?_⟩, ?_, fun _ _ _ _ _ _ _ => ⟨?_, ?_⟩, ?_, ?_, ?_, ?_, ?_,
        ?unfit⟩
      case unknown =>
        intro beyond
        exact row (by rw [exec_unknownCommand, cmdOf_unknown beyond, cmdOf_unknown beyond])
      case unfit =>
        intro executes first last unfit
        rw [left, cmdOf_unfit first last unfit]
        exact executes.answers (c := .unfit code) rfl rfl
      -- Every other row hands the command unit the command that the parameters are read as (log entry 6).
      all_goals
        intros
        subst_vars
        exact row rfl

end Sys2Proof.Machine
end

section
/-! What makes the line state (section 9.4): the four conditions of R164 read off the station, and the hold input, which changes the
own hold cause PIN (R161). -/

namespace Sys2Proof.Machine

/-! ### The stations of the roster -/

/-- What holds of every roster entry holds of every station's, and the other way round. -/
theorem forall_stationIndex {p : Fin 32 → Prop} : (∀ i, p i) ↔ ∀ n : Station, p (stationIndex n) :=
  ⟨fun all _ => all _, fun all i => all (BitVec.ofFin i)⟩

/-! ### The conditions of R164 -/

section Conditions

variable (s : State)

/-- Neither own hold cause is present (R161 to R163). -/
theorem State.ownHold_eq_false : s.ownHold = false ↔
    s.holdIn.asserted = false ∧ ¬(s.cfg.holdOnFault = true ∧ ∃ i, (s.axes.get i).state = .faulted) := by
  rw [State.ownHold, Bool.or_eq_false_iff, State.causePin, State.causeFault, ← s.axisFault_iff, ← Bool.and_eq_true,
    Bool.not_eq_true]

/-- No PRESENT station but the own asserts HOLD. -/
theorem State.peerHold_eq_false : s.peerHold = false ↔
    ∀ n : Station, n ≠ s.bus.number → s.Present n → (s.roster.get (stationIndex n)).hold = false := by
  simp only [State.peerHold, List.any_eq_false, List.mem_finRange, true_imp_iff, Bool.and_eq_true, decide_eq_true_eq, not_and,
    Bool.not_eq_true, and_imp, forall_stationIndex, ne_eq, stationIndex_inj, State.Present]

theorem State.essentialPresent_iff : s.essentialPresent = true ↔
    ∀ n : Station, s.cfg.essential.getLsbD n.toNat = true → s.Present n := by
  simp only [State.essentialPresent, List.all_eq_true, List.mem_finRange, true_imp_iff, Bool.or_eq_true, Bool.not_eq_true',
    ← Bool.not_eq_true, ← imp_iff_not_or, decide_eq_true_eq, forall_stationIndex]
  rfl

/-- The line state is RUN in ROTATING, with no own hold cause, no peer that holds and the essential stations there. -/
theorem State.run_iff : s.run = true ↔
    s.bus.station = .rotating ∧ s.ownHold = false ∧ s.peerHold = false ∧ s.essentialPresent = true := by
  simp only [State.run, Bool.and_eq_true, decide_eq_true_eq, Bool.not_eq_true', and_assoc]

end Conditions

/-- Settles O40: each condition of R164 is what the station derives it from. -/
theorem lineStateRun : Obligations.LineStateRun := by
  intro s
  rw [s.run_iff, s.ownHold_eq_false, s.peerHold_eq_false, s.essentialPresent_iff, and_assoc]
  rfl

/-! ### The hold input (R161) -/

theorem exec_holdInChange (s : State) (level : Bool) :
    exec (.holdInChange level) s = .next (s.withHoldIn (s.holdIn.sample s.held level)) := rfl

theorem exec_holdInQualify (s : State) : exec .holdInQualify s = .next s.holdInQualified := rfl

section Sample

variable (x : HoldIn) {held level : Bool}

/-- In reset only the level is remembered (R186). -/
theorem HoldIn.sample_held (reset : held = true) : x.sample held level = { x with pin := level } := if_pos reset

/-- A level that agrees with the qualified one (0 is asserted) cancels a pending change. -/
theorem HoldIn.sample_agrees (running : held = false) (agrees : x.asserted = !level) :
    x.sample held level = { x with pin := level, pending := none } := by
  subst running
  exact if_pos agrees

/-- A level against the qualified one begins a pending change; one that is pending goes on. -/
theorem HoldIn.sample_differs (running : held = false) (differs : x.asserted = level) :
    x.sample held level = { x with pin := level, pending := some (x.pending.getD 0) } := by
  subst running
  have against : ¬x.asserted = !level := by simp [differs]
  obtain ⟨pin, asserted, pending⟩ := x
  cases pending with
  | none => exact if_neg against
  | some n => exact if_neg against

end Sample

section Qualify

variable {s : State}

theorem State.holdInQualified_none (none : s.holdIn.pending = none) : s.holdInQualified = s := by
  simp [State.holdInQualified, none]

/-- A pending change that is qualified turns the cause PIN over, and the lines take the condition that follows. -/
theorem State.holdInQualified_pending (change : s.holdIn.pending ≠ none) : s.holdInQualified =
    (s.withHoldIn { s.holdIn with asserted := !s.holdIn.asserted, pending := none }).refreshLines :=
  if_pos (Option.isSome_iff_ne_none.mpr change)

theorem State.holdInQualified_takes (change : s.holdIn.pending ≠ none) : s.holdInQualified.LinesTake s.works.outputs := by
  rw [State.holdInQualified_pending change]
  exact State.refreshLines_takes (s.withHoldIn _)

/-- With HOLD_IN_N asserted the own hold cause PIN is present (R161, R163). -/
theorem State.ownHold_of_asserted (asserted : s.holdIn.asserted = true) : s.ownHold = true := by
  simp [State.ownHold, State.causePin, asserted]

/-- An own hold cause holds the line (R164). -/
theorem State.run_of_ownHold (hold : s.ownHold = true) : s.run = false := by
  simp [State.run, hold]

end Qualify

/-- Settles O25. A sample leaves the own hold cause alone; a qualified change turns it over. Where the cause begins it holds the
line, and the lines of a valid station are forced. -/
theorem holdInput : Obligations.HoldInput := by
  intro s level x
  refine ⟨fun held => ?_, fun running agrees => ?_, fun running differs => ?_, fun none => ?_, fun change => ?qualified⟩
  · rw [exec_holdInChange, x.sample_held held]; rfl
  · rw [exec_holdInChange, x.sample_agrees running agrees]; rfl
  · rw [exec_holdInChange, x.sample_differs running differs]; rfl
  · rw [exec_holdInQualify, State.holdInQualified_none none]
  case qualified =>
    have becomes := State.holdInQualified_pending change
    have takes := State.holdInQualified_takes change
    refine ⟨s.holdInQualified, exec_holdInQualify s, by rw [becomes]; rfl, by rw [becomes]; rfl, takes, fun released => ?_⟩
    have asserted : s.holdInQualified.holdIn.asserted = true := by
      rw [becomes]
      exact congrArg not released
    have hold := State.ownHold_of_asserted asserted
    have holds := State.run_of_ownHold hold
    refine ⟨holds, hold, fun valid => takes.forced ?_ holds⟩
    rw [becomes]
    exact valid

end Sys2Proof.Machine
end

section
/-! Console commands (chapter 10): how their rows reach the command unit, what it does with a command (R171), what an execution
leaves of the answers that are held, and the answers that come before a command's own checks (R173). -/

namespace Sys2Proof.Machine

/-! ### The rows -/

/-- The row of a console command brings a command to the command unit: READ_STATUS, one with the code byte given, or another. -/
theorem exec_console {i : Instr} {requester : Station} {tid : Byte} (row : console i = some (requester, tid)) :
    ∃ c, (∀ s, exec i s = .next (s.takeCommand requester tid c)) ∧
      ((∃ page handle, i = .readStatus requester tid page handle) ∨ (∃ code, i = .unknownCommand requester tid code) ∨
        c.isUnknown = false ∧ c.isReadStatus = false) := by
  cases i <;> cases row
  case readStatus page handle => exact ⟨.readStatus page handle, fun _ => rfl, .inl ⟨page, handle, rfl⟩⟩
  case unknownCommand code => exact ⟨cmdOf code [], fun _ => rfl, .inr (.inl ⟨code, rfl⟩)⟩
  case readQueue handle index => exact ⟨.readQueue handle index, fun _ => rfl, .inr (.inr ⟨rfl, rfl⟩)⟩
  case trimCam ring entry position => exact ⟨.trimCam ring entry position, fun _ => rfl, .inr (.inr ⟨rfl, rfl⟩)⟩
  case trimRule rule offset => exact ⟨.trimRule rule offset, fun _ => rfl, .inr (.inr ⟨rfl, rfl⟩)⟩
  case trimWindow window lower upper => exact ⟨.trimWindow window lower upper, fun _ => rfl, .inr (.inr ⟨rfl, rfl⟩)⟩
  case armRule index arm start => exact ⟨.armRule index arm start, fun _ => rfl, .inr (.inr ⟨rfl, rfl⟩)⟩
  case armRing index arm start => exact ⟨.armRing index arm start, fun _ => rfl, .inr (.inr ⟨rfl, rfl⟩)⟩
  case setOrigin handle value => exact ⟨.setOrigin handle value, fun _ => rfl, .inr (.inr ⟨rfl, rfl⟩)⟩
  case armIndex handle value => exact ⟨.armIndex handle value, fun _ => rfl, .inr (.inr ⟨rfl, rfl⟩)⟩
  case armIndexCancel handle => exact ⟨.armIndexCancel handle, fun _ => rfl, .inr (.inr ⟨rfl, rfl⟩)⟩
  case injectEntry handle due sequence tagClass forward action =>
    exact ⟨.injectEntry handle due sequence tagClass forward action, fun _ => rfl, .inr (.inr ⟨rfl, rfl⟩)⟩
  case clearQueue handle => exact ⟨.clearQueue handle, fun _ => rfl, .inr (.inr ⟨rfl, rfl⟩)⟩
  case clearCounts => exact ⟨.clearCounts, fun _ => rfl, .inr (.inr ⟨rfl, rfl⟩)⟩
  case pulseOutput line width => exact ⟨.pulseOutput line width, fun _ => rfl, .inr (.inr ⟨rfl, rfl⟩)⟩
  case restart => exact ⟨.restart, fun _ => rfl, .inr (.inr ⟨rfl, rfl⟩)⟩

/-! ### The steps of R171 -/

section Takes

variable {s : State} {requester : Station} {tid : Byte} {c : Cmd}

theorem State.takeCommand_ignored (apart : s.bus.station ≠ .rotating) : s.takeCommand requester tid c = s := if_pos apart

theorem State.takeCommand_dropped (rotating : s.bus.station = .rotating) (full : 4 ≤ s.works.responsesHeld) :
    s.takeCommand requester tid c = s.raise .cmdDropped := by
  rw [State.takeCommand, if_neg (not_not.mpr rotating), if_pos full]

theorem State.takeCommand_cached (rotating : s.bus.station = .rotating) (place : s.works.responsesHeld < 4) {x : CacheRecord}
    (record : s.command.cache.get (stationIndex requester) = some x) (same : x.tid = tid) :
    s.takeCommand requester tid c = s.withWorks (s.works.queueResponse x.response) := by
  have held : s.cached requester tid = some x.response := by
    rw [State.cached, record]
    exact if_pos same
  rw [State.takeCommand, if_neg (not_not.mpr rotating), if_neg (Nat.not_le.mpr place), held]

/-- A command that is executed, with a result that COMMANDS_EXECUTED counts. -/
theorem State.Reaches.answers (reaches : s.Reaches requester tid) {a : Answer} (executes : s.execute requester c = a)
    (counted : a.result.counted = true) :
    s.takeCommand requester tid c = a.state.answered ⟨requester, tid, c.code, a.result, a.data⟩ := by
  rw [reaches.takeCommand_eq, executes, Answer.deliver_eq, if_pos counted]
  rfl

/-- And with a result that it does not count. -/
theorem State.Reaches.responds (reaches : s.Reaches requester tid) {a : Answer} (executes : s.execute requester c = a)
    (uncounted : a.result.counted = false) :
    s.takeCommand requester tid c = a.state.responded ⟨requester, tid, c.code, a.result, a.data⟩ := by
  rw [reaches.takeCommand_eq, executes, Answer.deliver_eq, if_neg (by simp [uncounted])]
  rfl

end Takes

/-! ### The answers that are held -/

/-- The responses of the transmit queue. -/
def Works.responses (w : Works) : List TxItem := w.txQueue.filter fun i => !i.isTag

theorem Works.mem_responses (w : Works) (y : Response) : .rsp y ∈ w.responses ↔ .rsp y ∈ w.txQueue := by
  simp [Works.responses, TxItem.isTag]

/-- The answers the station holds: the records of the requesters and the responses that wait. -/
def State.replies (s : State) : Bank (Option CacheRecord) 32 × List TxItem := (s.command.cache, s.works.responses)

section Offers

variable (w : Works) (env : Env) (h : Handle) (e : Entry)

theorem Works.offerTag_responses (t : Tag) : (w.offerTag env t).responses = w.responses := by
  unfold Works.offerTag
  split
  · simp [Works.responses, TxItem.isTag]
  · rfl

/-- An entry that leaves forwards a tag at most. -/
theorem Works.leave_responses : (w.leave env h e).responses = w.responses := by
  have suppressed : (w.suppress env).responses = w.responses := congrArg (List.filter _) (w.suppress_txQueue env)
  rw [Works.leave_eq, Works.forwardTag]
  split
  · split
    · rw [Works.offerTag_responses, suppressed]
    · exact suppressed
  · exact suppressed

theorem Works.lateFire_responses : (w.lateFire env h e).responses = w.responses := by
  have sends : (w.lateFire env h e).responses = ((w.raise env .lateFire).leave env h e).responses :=
    congrArg (List.filter _) (w.lateFire_sends env h e).1
  rw [sends, Works.leave_responses]
  rfl

theorem Works.offer_responses : (w.offer env h e).2.responses = w.responses := by
  unfold Works.offer
  dsimp only
  split_ifs
  case pos => rfl
  case pos => rfl
  case pos => rfl
  case pos => rfl
  case neg => rfl
  case pos => exact w.lateFire_responses env h e
  case neg => rfl

end Offers

section Commands

variable (s : State)

/-- An origin command acts on its axis, or leaves the station as it is. -/
theorem State.onLocalAxis_state {P : State → Prop} {handle : Byte} {f : Fin 2 → Answer} (refused : P s)
    (effect : ∀ i, P (f i).state) : P (s.onLocalAxis handle f).state := by
  unfold State.onLocalAxis
  split
  · exact refused
  · split
    · exact refused
    · exact effect _

theorem State.originEvent_replies (i : Fin 2) (v : Pos) : (s.originEvent i v).replies = s.replies := by
  have sends : (s.originEvent i v).works.txQueue = s.works.txQueue := by
    simp only [State.originEvent, State.refreshLines, State.epochChange, State.withWorks_works, Works.enterCondition_txQueue,
      Works.epochChange_eq, Works.recomputeOn_txQueue]
    rfl
  exact Prod.ext rfl (congrArg (List.filter _) sends)

/-- A command's own effect reaches neither the records nor the responses that wait: the answer is all that does. -/
theorem State.perform_replies (requester : Station) (c : Cmd) : (s.perform requester c).state.replies = s.replies := by
  cases c
  case readStatus page handle => exact congrArg State.replies (s.readStatus_state page handle)
  case readQueue handle index => exact congrArg State.replies (s.readQueue_state handle index)
  case setOrigin handle value =>
    exact s.onLocalAxis_state (P := fun t => t.replies = s.replies) rfl fun i => by
      split
      · exact s.originEvent_replies i value
      · rfl
  case armIndex handle value => exact s.onLocalAxis_state (P := fun t => t.replies = s.replies) rfl fun i => by split <;> rfl
  case armIndexCancel handle => exact s.onLocalAxis_state (P := fun t => t.replies = s.replies) rfl fun _ => rfl
  case injectEntry handle due sequence tagClass forward action =>
    simp only [State.perform, State.injectEntry]
    split
    · rfl
    · split
      · exact Prod.ext rfl (Works.offer_responses ..)
      · rfl
  case trimWindow window lower upper =>
    have recomputed (w : Works) (k : Fin 8) : (w.recompute s.env k).responses = w.responses := by
      rw [w.recompute_frame s.env k]
      rfl
    simp only [State.perform, State.trimWindow]
    split
    · rfl
    · split
      · rfl
      · split
        · exact Prod.ext rfl (recomputed ..)
        · rfl
  case pulseOutput line width =>
    have acted (w : Works) (a : Action) : (w.act s.env none a).responses = w.responses := by
      rw [w.act_frame s.env none a]
      rfl
    simp only [State.perform, State.pulseOutput]
    split
    · rfl
    · split
      · rfl
      · split
        · rfl
        · exact Prod.ext rfl (acted ..)
  case trimCam | trimRule | armRule | armRing | clearQueue =>
    simp only [State.perform, State.trimCam, State.trimRule, State.armRule, State.armRing, State.clearQueue]
    repeat' split
    all_goals rfl
  case clearCounts | restart | unfit | unknown => rfl

theorem State.execute_replies (requester : Station) (c : Cmd) : (s.execute requester c).state.replies = s.replies := by
  unfold State.execute
  split_ifs
  case pos => rfl
  case pos => rfl
  case pos => rfl
  case neg => exact s.perform_replies requester c

end Commands

/-- The answer to an executed command stands at the tail of the transmit queue and in the requester's record. -/
theorem Answer.deliver_replies (a : Answer) (requester : Station) (tid : Byte) (c : Cmd) :
    (a.deliver requester tid c).works.txQueue = a.state.works.txQueue ++ [.rsp (responseTo requester tid c a)] ∧
      (a.deliver requester tid c).command.cache =
        a.state.command.cache.put (stationIndex requester) (some ⟨tid, responseTo requester tid c a⟩) := by
  rw [Answer.deliver_eq]
  split <;> exact ⟨rfl, rfl⟩

/-- Settles O41: the four ways of `State.takeCommand`; an execution leaves the answers held before it (`State.execute_replies`). -/
theorem commandTaken : Obligations.CommandTaken := by
  intro s i requester tid row
  obtain ⟨c, takes, -⟩ := exec_console row
  refine ⟨fun apart => ?ignored, fun rotating => ⟨fun full => ?dropped, fun place x record same => ?cached⟩,
    fun reaches => ?executed⟩
  case ignored => rw [takes, State.takeCommand_ignored apart]
  case dropped =>
    rw [takes, State.takeCommand_dropped rotating full]
    rfl
  case cached =>
    rw [takes, State.takeCommand_cached rotating place record same]
    rfl
  case executed =>
    have held := s.execute_replies requester c
    have taken := reaches.takeCommand_eq c
    generalize s.execute requester c = a at held taken
    obtain ⟨queued, recorded⟩ := a.deliver_replies requester tid c
    have records : a.state.command.cache = s.command.cache := congrArg Prod.fst held
    have waiting : a.state.works.responses = s.works.responses := congrArg Prod.snd held
    refine ⟨_, responseTo requester tid c a, a.state.works.txQueue, takes s, rfl, rfl, ?_, fun y => ?_, ?_⟩
    · rw [taken, queued]
    · rw [← Works.mem_responses, waiting, Works.mem_responses]
    · rw [taken, recorded, records]

/-! ### The answers of R173 that come first -/

section Refused

variable {s : State} {requester : Station} {c : Cmd}

/-- Where a configuration is valid, the console set decides (R176). -/
theorem State.permits_iff : s.permits requester = true ↔
    (s.startup.status = .valid → s.cfg.console.getLsbD requester.toNat = true) := by
  simp [State.permits, State.valid, imp_iff_not_or]

theorem State.execute_notPermitted (outside : ¬s.permits requester = true) :
    s.execute requester c = refuse .notPermitted s := if_pos (by simp [outside])

theorem State.execute_unknown (permitted : s.permits requester = true) (unknown : c.isUnknown = true) :
    s.execute requester c = refuse .unknownCommand s := by
  rw [State.execute, if_neg (by simp [permitted]), if_pos unknown]

theorem State.execute_unconfigured (missing : s.startup.status ≠ .valid) (known : c.isUnknown = false)
    (other : c.isReadStatus = false) : s.execute requester c = refuse .badState s := by
  have permitted : s.permits requester = true := State.permits_iff.mpr fun valid => absurd valid missing
  rw [State.execute, if_neg (by simp [permitted]), if_neg (by simp [known]), if_pos (by simp [State.valid, missing, other])]

end Refused

/-- Settles O42: the refusals of `State.execute` in their order. -/
theorem commandRefused : Obligations.CommandRefused := by
  refine ⟨fun s i requester tid row reaches => ?_, fun s requester tid code reaches permitted beyond => ?_⟩
  · obtain ⟨c, takes, kind⟩ := exec_console row
    refine ⟨fun valid outside => ?_, fun missing notStatus notUnknown => ?_⟩
    · have refused : ¬s.permits requester = true := fun permits => by simp [State.permits_iff.mp permits valid] at outside
      exact ⟨_, by rw [takes, reaches.responds (State.execute_notPermitted refused) rfl]; rfl, rfl, rfl, rfl, rfl⟩
    · obtain ⟨known, other⟩ := (kind.resolve_left fun ⟨page, handle, same⟩ => notStatus page handle same).resolve_left
        fun ⟨code, same⟩ => notUnknown code same
      exact ⟨_, by rw [takes, reaches.answers (State.execute_unconfigured missing known other) rfl]; rfl, rfl, rfl, rfl, rfl⟩
  · rw [exec_unknownCommand, cmdOf_unknown beyond,
      reaches.responds (State.execute_unknown (State.permits_iff.mpr permitted) rfl) rfl]
    rfl

end Sys2Proof.Machine
end

section
/-! READ_STATUS (R178, R179, R167): which pages it answers, and what stands in each of them byte by byte. -/

namespace Sys2Proof.Machine

theorem exec_readStatus (s : State) (requester : Station) (tid page handle : Byte) :
    exec (.readStatus requester tid page handle) s =
      .next (s.takeCommand requester tid (.readStatus page handle)) := rfl

/-! ### Which pages are answered -/

section Pages

variable (s : State) {page handle : Byte}

/-- READ_STATUS is executed for a permitted requester, and for any while no configuration is in force (R173, R176). -/
theorem State.execute_readStatus {requester : Station}
    (allowed : s.startup.status = .valid ∧ s.cfg.console.getLsbD requester.toNat = true ∨ s.startup.status = .invalid) :
    s.execute requester (.readStatus page handle) = s.readStatus page handle := by
  have permitted : s.permits requester = true := by
    rw [State.permits_iff]
    rcases allowed with ⟨-, member⟩ | invalid
    · exact fun _ => member
    · exact fun valid => absurd (invalid.symm.trans valid) nofun
  simp [State.execute, permitted, Cmd.isUnknown, Cmd.isReadStatus, Cmd.code, State.perform]

/-- A page above 6, or page 1 of a handle above 7. -/
theorem State.readStatus_beyond (beyond : 6 < page.toNat ∨ page = 1 ∧ 8 ≤ handle.toNat) :
    s.readStatus page handle = refuse .badParam s := by
  rcases beyond with above | ⟨rfl, above⟩
  · unfold State.readStatus
    split
    on_goal 8 => rfl
    all_goals omega
  · simp only [State.readStatus, handleOf_none above]
    rfl

theorem State.readStatus_ok (named : page.toNat ≤ 6) (handles : page = 1 → handle.toNat < 8) :
    (s.readStatus page handle).result = .ok := by
  unfold State.readStatus
  split
  case h_2 one =>
    rw [handleOf_some (h := ⟨handle.toNat, handles (BitVec.eq_of_toNat_eq one)⟩) rfl]
  case h_8 => interval_cases page.toNat <;> contradiction
  all_goals rfl

theorem State.readStatus_counted : (s.readStatus page handle).result.counted = true := by
  unfold State.readStatus
  split
  case h_2 => split <;> rfl
  all_goals rfl

/-- Page 1 of handle `h`. -/
theorem State.readStatus_one {h : Handle} (named : h.val = handle.toNat) : (s.readStatus 1 handle).data = s.page1 h := by
  simp only [State.readStatus, handleOf_some named]
  rfl

end Pages

/-! ### Page 0 -/

/-- Byte 2: HOLD, the two own hold causes and the axis fault in bits of their own. -/
theorem hold_causes_fault : ∀ run pin cause fault : Bool,
    (bit (!run) ||| (bit pin <<< 1) ||| (bit cause <<< 2) ||| (bit fault <<< 3)) =
      BitVec.ofNat 8 ((if run then 0 else 1) + (if pin then 2 else 0) + (if cause then 4 else 0) + if fault then 8 else 0) := by
  decide

/-- The pending kinds are counted by their records. -/
theorem Notices.list_length (x : Notices) :
    x.list.length = (List.finRange 16).countP fun k => decide (x.pending.get k ≠ 0) := by
  have codes := congrArg List.length x.list_codes
  rw [List.length_map, List.length_map, Notices.pendingCodes, ← List.countP_eq_length_filter] at codes
  exact codes

theorem State.page0_eq (s : State) : s.page0 =
    [ if s.startup.status = .valid then 0 else 1
    , BitVec.ofNat 8 s.startup.failingCheck
    , BitVec.ofNat 8 ((if s.run then 0 else 1) + (if s.holdIn.asserted then 2 else 0) +
        (if s.cfg.holdOnFault && s.axisFault then 4 else 0) + (if s.axisFault then 8 else 0))
    , BitVec.ofNat 8 s.works.entries.length
    , BitVec.ofNat 8 s.works.txQueue.length
    , BitVec.ofNat 8 s.works.responsesHeld
    , if s.command.restartPending then 1 else 0 ] ++ bytes16 s.nextSequence ++
    [BitVec.ofNat 8 ((List.finRange 16).countP fun k => decide (s.works.notices.pending.get k ≠ 0))] := by
  have status : byteOf (if s.valid then 0 else 1) = if s.startup.status = .valid then 0 else 1 := by
    by_cases valid : s.startup.status = .valid <;> simp [State.valid, valid, byteOf]
  rw [State.page0, status, hold_causes_fault, Works.entriesHeld_eq, Notices.list_length]
  rfl

/-! ### Page 1 -/

/-- Byte 1: kind, last direction and epoch. -/
theorem kind_direction_epoch : ∀ (kind : AxisKind) (d : Option Direction) (epoch : Epoch),
    (bit (decide (kind = .ring)) <<< 7) ||| (directionCode d <<< 4) ||| epoch.zeroExtend 8 =
      BitVec.ofNat 8 ((if kind = .ring then 128 else 0) + 16 * (match d with
        | none => 0
        | some .fwd => 1
        | some .rev => 2) + epoch.toNat) := by
  intro kind d
  cases kind <;> rcases d with _ | _ | _ <;> decide

/-- The twelve bytes of page 1 (section 8.10). -/
def handlePage (state : Nat) (kind : AxisKind) (d : Option Direction) (epoch : Epoch) (id : Nat) (position : Pos)
    (arm : Option (BitVec 32)) : List Byte :=
  [BitVec.ofNat 8 state,
    BitVec.ofNat 8 ((if kind = .ring then 128 else 0) + 16 * (match d with
      | none => 0
      | some .fwd => 1
      | some .rev => 2) + epoch.toNat),
    BitVec.ofNat 8 id] ++
  bytes32 position ++
  (match arm with
    | none => [0, 0, 0, 0, 0]
    | some v => 1 :: bytes32 v)

/-- What they show is what the station reads of the handle. -/
theorem State.page1_eq (s : State) (h : Handle) {state id : Nat} (code : s.axisCode h = BitVec.ofNat 8 state)
    (axis : s.lineAxisByte h = BitVec.ofNat 8 id) :
    s.page1 h = handlePage state (s.cfg.geometry h).kind (s.lastDirection h) (s.env.epoch h) id (s.env.position h) (s.armOf h) := by
  rw [State.page1, kind_direction_epoch, code, axis]
  rfl

/-- A local axis shows its own line axis id, 2 × n + i, and its index arm. -/
theorem State.page1_local (s : State) (i : Fin 2) :
    s.page1 (localHandle i) =
      handlePage (match (s.axes.get i).state with
          | .off => 0
          | .active => 1
          | .faulted => 2)
        (s.cfg.axes.get i).kind (s.axes.get i).lastDirection (s.axes.get i).epoch (2 * s.bus.number.toNat + i.val)
        (s.axes.get i).position (s.axes.get i).arm := by
  have ref := axisRef_localHandle i
  have code : s.axisCode (localHandle i) = BitVec.ofNat 8 (match (s.axes.get i).state with
      | .off => 0
      | .active => 1
      | .faulted => 2) := by
    simp only [State.axisCode, ref]
    cases (s.axes.get i).state <;> rfl
  have axis : s.lineAxisByte (localHandle i) = BitVec.ofNat 8 (2 * s.bus.number.toNat + i.val) := by
    simp only [State.lineAxisByte, Env.lineAxis, ref]
    rw [← ownLineAxis_toNat, BitVec.ofNat_toNat]
    rfl
  rw [s.page1_eq _ code axis]
  simp only [Settings.geometry, State.lastDirection, Env.epoch, Env.position, State.armOf, ref]
  rfl

/-- A mirror shows the subscribed id, FFh while it is unused, and no index arm. -/
theorem State.page1_mirror (s : State) (i : Fin 6) :
    s.page1 (mirrorHandle i) =
      handlePage (match (s.mirrors.get i).state with
          | .unseen => 3
          | .active => 1
          | .stale => 4
          | .remoteFault => 5)
        (s.cfg.mirrors.get i).kind (s.mirrors.get i).lastDirection (s.mirrors.get i).epoch
        (match (s.cfg.mirrors.get i).lineAxis with
          | none => 255
          | some id => id.toNat)
        (s.mirrors.get i).position none := by
  have ref := axisRef_mirrorHandle i
  have code : s.axisCode (mirrorHandle i) = BitVec.ofNat 8 (match (s.mirrors.get i).state with
      | .unseen => 3
      | .active => 1
      | .stale => 4
      | .remoteFault => 5) := by
    simp only [State.axisCode, ref]
    cases (s.mirrors.get i).state <;> rfl
  have axis : s.lineAxisByte (mirrorHandle i) = BitVec.ofNat 8 (match (s.cfg.mirrors.get i).lineAxis with
      | none => 255
      | some id => id.toNat) := by
    simp only [State.lineAxisByte, Env.lineAxis, ref, State.env]
    cases (s.cfg.mirrors.get i).lineAxis with
    | none => rfl
    | some id => exact (BitVec.ofNat_toNat ..).symm
  rw [s.page1_eq _ code axis]
  simp only [Settings.geometry, State.lastDirection, Env.epoch, Env.position, State.armOf, ref]
  rfl

/-! ### Pages 2 to 5 -/

/-- A counter's two bytes, read off the list of all counters. -/
theorem State.counterBytes_eq (s : State) (k : Fin 19) :
    s.counterBytes k = bytes16 (BitVec.ofNat 16 (s.works.notices.counters.toList.getD k.val 0)) := by
  simp [State.counterBytes, Bank.get]

/-- Six counters from `6 * p` on. -/
theorem State.counterBytes_six (s : State) {p : Nat} {l : List (Fin 19)}
    (six : l.map (fun k => k.val) = (List.range 6).map fun j => 6 * p + j) :
    l.flatMap s.counterBytes = (List.range 6).flatMap fun j =>
      bytes16 (BitVec.ofNat 16 (s.works.notices.counters.toList.getD (6 * p + j) 0)) := by
  have bytes : s.counterBytes = fun k =>
      bytes16 (BitVec.ofNat 16 (s.works.notices.counters.toList.getD k.val 0)) := funext s.counterBytes_eq
  have read := congrArg (List.flatMap fun n => bytes16 (BitVec.ofNat 16 (s.works.notices.counters.toList.getD n 0))) six
  rw [List.flatMap_map, List.flatMap_map] at read
  rw [bytes]
  exact read

theorem State.readStatus_counters (s : State) {page : Byte} (handle : Byte) {p : Nat} (few : p < 3) (named : page.toNat = 2 + p) :
    (s.readStatus page handle).data = (List.range 6).flatMap fun j =>
      bytes16 (BitVec.ofNat 16 (s.works.notices.counters.toList.getD (6 * p + j) 0)) := by
  obtain rfl : page = BitVec.ofNat 8 (2 + p) := BitVec.eq_of_toNat_eq (by rw [named, BitVec.toNat_ofNat]; omega)
  interval_cases p
  · exact s.counterBytes_six (l := [0, 1, 2, 3, 4, 5]) rfl
  · exact s.counterBytes_six (l := [6, 7, 8, 9, 10, 11]) rfl
  · exact s.counterBytes_six (l := [12, 13, 14, 15, 16, 17]) rfl

/-! ### Page 6 -/

theorem maskOf_foldl (f : Fin 32 → Bool) (l : List (Fin 32)) (m : BitVec 32) (i : Fin 32) :
    (l.foldl (fun m n => if f n then m ||| (1#32 <<< n.val) else m) m).getLsbD i.val =
      (m.getLsbD i.val || (decide (i ∈ l) && f i)) := by
  induction l generalizing m with
  | nil => simp
  | cons n rest ih =>
    rw [List.foldl_cons, ih]
    by_cases same : i = n
    · subst same
      cases f i <;> simp
    · have apart : i.val ≠ n.val := fun e => same (Fin.ext e)
      have clear : (1#32 <<< n.val).getLsbD i.val = false := by
        simp
        omega
      have kept : (if f n then m ||| (1#32 <<< n.val) else m).getLsbD i.val = m.getLsbD i.val := by
        split
        · rw [BitVec.getLsbD_or, clear, Bool.or_false]
        · rfl
      rw [kept]
      simp only [List.mem_cons, same, false_or]

/-- Bit `i` of the mask of `f`. -/
theorem getLsbD_maskOf (f : Fin 32 → Bool) (i : Fin 32) : (maskOf f).getLsbD i.val = f i := by
  rw [maskOf, maskOf_foldl]
  simp only [BitVec.getLsbD_zero, Bool.false_or, List.mem_finRange, decide_true, Bool.true_and]

/-- Settles O43: the answer is that of `State.readStatus`, whatever the configuration status, and each page is read byte by byte. -/
theorem readStatusAnswers : Obligations.ReadStatusAnswers := by
  intro s requester tid page handle reaches allowed
  have answers : exec (.readStatus requester tid page handle) s = .next (s.answered
      ⟨requester, tid, 1, (s.readStatus page handle).result, (s.readStatus page handle).data⟩) := by
    rw [exec_readStatus, reaches.answers (s.execute_readStatus allowed) s.readStatus_counted, s.readStatus_state]
    rfl
  refine ⟨_, _, answers, fun beyond => ?beyond, s.readStatus_ok, ?summary, ?axis, fun p few named =>
    s.readStatus_counters handle few named, ?executed, ?roster⟩
  case beyond =>
    rw [s.readStatus_beyond beyond]
    exact ⟨rfl, rfl⟩
  case summary =>
    rintro rfl
    exact s.page0_eq
  case axis =>
    rintro rfl
    refine ⟨fun i named => ?_, fun i named => ?_⟩
    · exact (s.readStatus_one (h := localHandle i) named).trans (s.page1_local i)
    · exact (s.readStatus_one (h := mirrorHandle i) ((Nat.add_comm ..).trans named)).trans (s.page1_mirror i)
  case executed =>
    rintro rfl
    rfl
  case roster =>
    rintro rfl
    refine ⟨_, _, _, rfl, fun n => ⟨?_, ?_, getLsbD_maskOf _ (stationIndex n)⟩⟩
    · exact (getLsbD_maskOf _ (stationIndex n)).congr_left.trans decide_eq_true_iff
    · exact (getLsbD_maskOf _ (stationIndex n)).congr_left.trans decide_eq_true_iff

end Sys2Proof.Machine
end

section
/-! The warm restart (R181 to R185): what it makes of the station on which the response of a RESTART has been sent. -/

namespace Sys2Proof.Machine

/-! ### Mirrors that become UNSEEN (R116) -/

/-- From `s` to `t` axes are lost: only the mirrors, the windows and the lines change, and of a window its flag alone. -/
structure State.LosesAxes (s t : State) : Prop where
  frame : t = { s with
    mirrors := t.mirrors, works := { s.works with windows := t.works.windows, outputs := t.works.outputs } }
  lower : ∀ k, (t.works.windows.get k).lower = (s.works.windows.get k).lower
  upper : ∀ k, (t.works.windows.get k).upper = (s.works.windows.get k).upper

section LosesAxes

variable {s t u : State}

theorem State.LosesAxes.refl (s : State) : s.LosesAxes s := ⟨rfl, fun _ => rfl, fun _ => rfl⟩

theorem State.LosesAxes.trans (a : s.LosesAxes t) (b : t.LosesAxes u) : s.LosesAxes u :=
  ⟨by rw [b.frame, a.frame], fun k => (b.lower k).trans (a.lower k), fun k => (b.upper k).trans (a.upper k)⟩

theorem State.stopsBeingActive_losesAxes (s : State) (h : Handle) : s.LosesAxes (s.stopsBeingActive h) := by
  obtain ⟨-, windows⟩ := s.works.stopsBeingActive_delivers s.env h
  refine ⟨?_, fun k => ?_, fun k => ?_⟩
  · rw [State.stopsBeingActive, s.works.stopsBeingActive_frame s.env h]
    rfl
  · rw [State.stopsBeingActive, State.withWorks_works, windows]
    split <;> rfl
  · rw [State.stopsBeingActive, State.withWorks_works, windows]
    split <;> rfl

theorem State.restartMirror_losesAxes (s : State) (i : Fin 6) : s.LosesAxes (s.restartMirror i) := by
  have mirror : s.LosesAxes (s.withMirror i Mirror.unseen) := ⟨rfl, fun _ => rfl, fun _ => rfl⟩
  unfold State.restartMirror
  dsimp only
  split
  · exact mirror.trans (State.stopsBeingActive_losesAxes ..)
  · exact mirror

end LosesAxes

/-! ### The warm restart (R184) -/

/-- The blocks that a warm restart sets at once: all but the mirrors, the windows and the lines. -/
def State.restarting (s : State) : State :=
  { s with
    bus := { s.bus with station := .listening, anchor := none, wait := none, joined := [], flight := none }
    roster := Bank.fill ⟨.unknown, 0, false⟩
    command := ⟨Bank.fill none, false⟩
    axes := s.axes.change fun _ x => { x with arm := none }
    works := s.works.restart }

/-- The mirrors UNSEEN, and the lines under the condition of the station. -/
def State.unseeing (s : State) : State := ((List.finRange 6).foldl (fun s i => s.restartMirror i) s.restarting).refreshLines

theorem State.warmRestart_eq (s : State) :
    s.warmRestart = s.unseeing.withWorks (s.unseeing.works.recomputeAll s.unseeing.env) := rfl

/-- What a warm restart makes of the station (R184). -/
structure State.Restarts (s t : State) : Prop where
  frame : t = { s.restarting with
    mirrors := t.mirrors, works := { s.works.restart with windows := t.works.windows, outputs := t.works.outputs } }
  mirrors : ∀ i, t.mirrors.get i = Mirror.unseen
  lower : ∀ k, (t.works.windows.get k).lower = (s.works.windows.get k).lower
  upper : ∀ k, (t.works.windows.get k).upper = (s.works.windows.get k).upper
  flags : t.WindowsSound
  conditions : ∀ q, (t.works.outputs.get q).condition = t.lineCondition

section Restart

variable (s : State)

theorem State.refreshLines_losesAxes : s.LosesAxes s.refreshLines := ⟨rfl, fun _ => rfl, fun _ => rfl⟩

/-- Lines that have been handed the condition of the station are under it. -/
theorem State.refreshLines_condition (q : Fin 8) :
    (s.refreshLines.works.outputs.get q).condition = s.refreshLines.lineCondition := by
  rw [State.refreshLines, State.withWorks_works, Works.enterCondition_outputs, Bank.get_change, Output.enter_condition]
  rfl

theorem State.unseeing_losesAxes : s.restarting.LosesAxes s.unseeing := by
  have mirrors := foldl_frame (fun s i => s.restartMirror i) State.LosesAxes .refl (fun _ _ _ => .trans)
    (fun s i => s.restartMirror_losesAxes i) (List.finRange 6) s.restarting
  exact mirrors.trans (State.refreshLines_losesAxes _)

theorem State.unseeing_mirrors (i : Fin 6) : s.unseeing.mirrors.get i = Mirror.unseen := by
  rw [State.unseeing, State.refreshLines_mirrors, State.restartList_mirrors, if_pos (List.mem_finRange i)]

theorem State.unseeing_condition (q : Fin 8) : (s.unseeing.works.outputs.get q).condition = s.unseeing.lineCondition :=
  State.refreshLines_condition _ q

theorem State.warmRestart_restarts : s.Restarts s.warmRestart := by
  have loses := s.unseeing_losesAxes
  have mirrors := s.unseeing_mirrors
  have conditions := s.unseeing_condition
  rw [State.warmRestart_eq]
  generalize s.unseeing = u at loses mirrors conditions
  have windows := u.works.recomputeAll_recomputes u.env
  refine ⟨?frame, mirrors, fun k => ?lower, fun k => ?upper, u.recomputeAll_windowsSound, fun q => ?conditions⟩
  case frame =>
    rw [Works.recomputeAll_frame, loses.frame]
    rfl
  case lower => exact (congrArg Window.lower (windows k)).trans (loses.lower k)
  case upper => exact (congrArg Window.upper (windows k)).trans (loses.upper k)
  case conditions => exact ((u.works.recomputeAll_keepsLines u.env).line q).condition.trans (conditions q)

end Restart

section Restarts

variable {s t : State} (restarts : s.Restarts t)

include restarts

/-- Whoever listens is in HOLD (R164). -/
theorem State.Restarts.run : t.run = false := by
  rw [restarts.frame]
  rfl

theorem State.Restarts.axisFault : t.axisFault = s.axisFault := by
  rw [restarts.frame]
  simp [State.axisFault, State.restarting]

/-- FAULT_OUT_N is asserted by what the restart leaves: the configuration status and the axis faults (R100). -/
theorem State.Restarts.faultOut : t.faultOut = (decide (s.startup.status = .invalid) || s.axisFault) := by
  rw [State.faultOut, restarts.axisFault, restarts.frame]
  rfl

theorem State.Restarts.forced (valid : s.startup.status = .valid) (q : Fin 8) :
    (t.works.outputs.get q).condition = .forced := by
  have configured : t.startup.status = .valid := by rw [restarts.frame]; exact valid
  rw [restarts.conditions, State.lineCondition_eq, if_neg (not_not.mpr configured), if_neg (by simp [restarts.run])]

/-- A window on a mirror reads 0: no mirror is ACTIVE (R80, R116). -/
theorem State.Restarts.dark {k : Fin 8} {h : Handle} (on : (s.cfg.windows.get k).handle = some h) (mirror : 2 ≤ h.val) :
    (t.works.windows.get k).flag = false := by
  have cfg : t.env.cfg = s.cfg := by rw [restarts.frame]; rfl
  have off : t.env.active h = false := by
    cases ref : axisRef h with
    | loc i =>
      rw [eq_localHandle ref] at mirror
      exact absurd i.isLt (Nat.not_lt.mpr mirror)
    | mir i =>
      rw [eq_mirrorHandle ref, Env.active_mirrorHandle]
      exact decide_eq_false (by rw [show t.env.mirrors.get i = _ from restarts.mirrors i]; nofun)
  rw [restarts.flags k]
  exact Works.windowFlag_not_active (cfg ▸ on) off

end Restarts

/-! ### The completion that carries the response -/

/-- A frame that carries the OK response to a pending RESTART brings the warm restart (R182). -/
theorem State.complete_restarts {s : State} {f : Flight} {r : Response} (sending : s.bus.flight = some f)
    (pending : s.command.restartPending = true) (carried : .rsp r ∈ s.works.txQueue.take f.taken) (code : r.code = 0x0D)
    (ok : r.result = .ok) : s.complete = (s.completeFrame f).warmRestart := by
  have answers : (s.works.txQueue.take f.taken).any TxItem.isRestart = true :=
    List.any_eq_true.mpr ⟨_, carried, by simp [TxItem.isRestart, code, ok]⟩
  rw [State.complete, sending]
  exact if_pos (by rw [State.restartDue, pending, answers]; rfl)

/-- The bounds of a window are no concern of a loss. -/
theorem Works.windowAfter_bounds (w : Works) (cfg : Settings) (lost : Handle → Bool) (k : Fin 8) :
    (w.windowAfter cfg lost k).lower = (w.windows.get k).lower ∧
      (w.windowAfter cfg lost k).upper = (w.windows.get k).upper := by
  unfold Works.windowAfter
  split <;> exact ⟨rfl, rfl⟩

section Completion

variable {s u t : State} {f : Flight}

/-- The two together: what the restart finds of the completion is what it does not set. -/
theorem State.Completes.restarts_frame (completes : s.Completes f u) (restarts : u.Restarts t) : t = { s with
    bus := { s.bus with
      station := .listening, anchor := none, idle := 0, byteLeft := 0, reception := .none, fresh := false
      wait := none, joined := [], flight := none, rxd := true }
    axes := s.axes.change fun _ x => { x with arm := none }
    mirrors := t.mirrors
    roster := Bank.fill ⟨.unknown, 0, false⟩
    command := ⟨Bank.fill none, false⟩
    works := { s.works.restart with
      windows := t.works.windows, outputs := t.works.outputs, choice := t.works.choice
      notices := ⟨Bank.fill 0, t.works.notices.counters⟩ } } := by
  rw [restarts.frame, completes.frame]
  rfl

theorem State.Completes.bounds (completes : s.Completes f u) (k : Fin 8) :
    (u.works.windows.get k).lower = (s.works.windows.get k).lower ∧
      (u.works.windows.get k).upper = (s.works.windows.get k).upper := by
  obtain ⟨l, fading, -⟩ := completes.fading
  rw [fading.windows k]
  exact s.works.windowAfter_bounds ..

/-- The restart keeps the counters as the completion leaves them (R199). -/
theorem State.CompletesNotes.restarts_counters (notes : s.CompletesNotes f u) (restarts : u.Restarts t) {k : Fin 19}
    (stale : k ≠ 11) (lost : k ≠ 13) : t.works.notices.counters.get k =
      if 17 = k then countUp (s.works.notices.counters.get 17) else s.works.notices.counters.get k := by
  rw [restarts.frame, ← s.works.completeNotes_counter f, ← notes.counters k stale lost]
  rfl

end Completion

/-- Settles O34: the frame completes first (`State.Completes`, `State.CompletesNotes`), and the warm restart finds the station so
(`State.Restarts`). -/
theorem warmRestart : Obligations.WarmRestart := by
  intro s f r sending pending carried code ok
  obtain ⟨completes, notes⟩ := s.completeFrame_completes f
  have restarts := (s.completeFrame f).warmRestart_restarts
  refine ⟨_, by rw [exec_completion, State.complete_restarts sending pending carried code ok], ?_⟩
  generalize s.completeFrame f = u at completes notes restarts
  generalize u.warmRestart = t at restarts
  have frame := completes.restarts_frame restarts
  have cfg : u.cfg = s.cfg := by rw [completes.frame]
  have startup : u.startup = s.startup := by rw [completes.frame]
  have axisFault : u.axisFault = s.axisFault := by rw [completes.frame]; rfl
  refine ⟨by rw [frame], by rw [frame], by rw [frame], by rw [frame], by rw [frame], by rw [frame], by rw [frame],
    by rw [frame], fun i => ?axes, restarts.mirrors, fun n => ?roster, fun n => ?cache, by rw [frame], fun h => ?queues,
    by rw [frame]; rfl, by rw [frame]; rfl, fun k => ?sensors, fun k => ?rings, fun k => ?windows, fun below => ?sent,
    fun k stale lost frames => ?others, fun k => ?pending, restarts.run, ?faultOut, fun valid =>
      restarts.forced (startup ▸ valid)⟩
  case axes | sensors | rings => rw [frame]; exact Bank.get_change ..
  case roster | cache | queues | pending => rw [frame]; exact Bank.get_fill ..
  case windows =>
    obtain ⟨lower, upper⟩ := completes.bounds k
    exact ⟨(restarts.lower k).trans lower, (restarts.upper k).trans upper, restarts.flags k, fun h on mirror =>
      restarts.dark (cfg ▸ on) mirror⟩
  case sent =>
    rw [notes.restarts_counters restarts (by decide) (by decide), if_pos rfl, countUp]
    omega
  case others => rw [notes.restarts_counters restarts stale lost, if_neg frames.symm]
  case faultOut => rw [restarts.faultOut, startup, axisFault]

end Sys2Proof.Machine
end

section
/-! Cold reset and RESET_N (R186): the value every block starts from, what is left to act while the device is held, and the
station as COLD_RESET lets it go. -/

namespace Sys2Proof.Machine

/-! ### The rows of start-up -/

section Rows

variable (s : State)

theorem exec_coldReset (number : Station) (rate : BitVec 2) :
    exec (.coldReset number rate) s = .next (s.coldReset number rate) := rfl
theorem exec_resetNAsserted : exec .resetNAsserted s = .next s.cold := rfl

/-- In LOADING the pass is judged. -/
theorem exec_readPass_loading {s : State} (running : s.held = false) (loading : s.bus.station = .loading) (memory : List Byte)
    (miso : Bool) : exec (.readPass memory miso) s = .next (s.judgePass memory miso) :=
  congrArg _ (if_pos ⟨by simp [running], loading⟩)

/-- The memory is read during LOADING and at no other time (R193). -/
theorem exec_readPass_elsewhere {s : State} (elsewhere : s.held = true ∨ s.bus.station ≠ .loading) (memory : List Byte)
    (miso : Bool) : exec (.readPass memory miso) s = .next s := by
  refine congrArg _ (if_neg ?_)
  rintro ⟨running, loading⟩
  rcases elsewhere with held | other
  · simp [held] at running
  · exact other loading

end Rows

/-! ### The cold values of the blocks -/

section Cold

variable (s : State)

theorem State.cold_held : s.cold.held = true := rfl
@[simp] theorem State.cold_axis (i : Fin 2) : s.cold.axes.get i = (s.axes.get i).cold := Bank.get_change ..
@[simp] theorem State.cold_mirror (i : Fin 6) : s.cold.mirrors.get i = .unseen := Bank.get_fill ..
@[simp] theorem State.cold_entry (n : Fin 32) : s.cold.roster.get n = ⟨.unknown, 0, false⟩ := Bank.get_fill ..
@[simp] theorem State.cold_record (n : Fin 32) : s.cold.command.cache.get n = none := Bank.get_fill ..
@[simp] theorem State.cold_queue (h : Handle) : s.cold.works.queues.get h = [] := Bank.get_fill ..
@[simp] theorem State.cold_sensor (k : Fin 4) : s.cold.works.sensors.get k = (s.works.sensors.get k).cold := Bank.get_change ..
@[simp] theorem State.cold_ring (r : Fin 4) : s.cold.works.rings.get r = ⟨0, false, []⟩ := Bank.get_fill ..
@[simp] theorem State.cold_window (k : Fin 8) : s.cold.works.windows.get k = ⟨0, 0, false⟩ := Bank.get_fill ..
@[simp] theorem State.cold_output (q : Fin 8) : s.cold.works.outputs.get q = .released := Bank.get_fill ..
@[simp] theorem State.cold_notice (k : Fin 16) : s.cold.works.notices.pending.get k = 0 := Bank.get_fill ..
@[simp] theorem State.cold_counter (k : Fin 19) : s.cold.works.notices.counters.get k = 0 := Bank.get_fill ..
@[simp] theorem State.cold_ringSetting (r : Fin 4) : (s.cold.cfg.rings.get r).handle = none :=
  congrArg RingSettings.handle (Bank.get_fill ..)
@[simp] theorem State.cold_windowSetting (k : Fin 8) : (s.cold.cfg.windows.get k).handle = none :=
  congrArg WindowSettings.handle (Bank.get_fill ..)
@[simp] theorem State.cold_mirrorSetting (i : Fin 6) : (s.cold.cfg.mirrors.get i).lineAxis = none :=
  congrArg MirrorSettings.lineAxis (Bank.get_fill ..)

theorem State.cold_axisFault : s.cold.axisFault = false := by simp [State.axisFault, LocalAxis.cold]

/-- What has its cold value keeps it through another assertion of RESET_N. -/
theorem State.cold_cold : s.cold.cold = s.cold := by
  have axes : s.cold.cold.axes = s.cold.axes := Bank.ext_get fun i => by rw [State.cold_axis, State.cold_axis]; rfl
  have sensors : s.cold.cold.works.sensors = s.cold.works.sensors :=
    Bank.ext_get fun k => by rw [State.cold_sensor, State.cold_sensor]; rfl
  calc s.cold.cold
      = { s.cold with axes := s.cold.cold.axes, works := { s.cold.works with sensors := s.cold.cold.works.sensors } } := rfl
    _ = s.cold := by rw [axes, sensors]

/-- At power-up every block is at its cold value. -/
theorem State.reset_cold : State.reset.cold = State.reset := by
  have axes : State.reset.cold.axes = State.reset.axes := Bank.ext_get fun i => by
    rw [State.cold_axis, State.reset, Bank.get_fill]; rfl
  have sensors : State.reset.cold.works.sensors = State.reset.works.sensors := Bank.ext_get fun k => by
    rw [State.cold_sensor, State.reset, Bank.get_fill]; rfl
  calc State.reset.cold
      = { State.reset with
          axes := State.reset.cold.axes
          works := { State.reset.works with sensors := State.reset.cold.works.sensors } } := rfl
    _ = State.reset := by rw [axes, sensors]

end Cold

/-- Settles O3: the station let go is `State.cold` but for the straps, the pass and the filter of HOLD_IN_N. -/
theorem coldResetStartsLoading : Obligations.ColdResetStartsLoading := by
  intro s number rate
  refine ⟨s.coldReset number rate, exec_coldReset s number rate, rfl, rfl, rfl, rfl, s.cold_axis, s.cold_mirror, rfl,
    s.cold_sensor, s.cold_queue, rfl, rfl, fun r => congrArg Ring.pointer (s.cold_ring r),
    fun k => congrArg Window.flag (s.cold_window k), s.cold_output, s.cold_notice, s.cold_counter, s.cold_entry, s.cold_record,
    rfl, rfl, rfl, rfl, rfl, ?faultOut⟩
  case faultOut =>
    have sound : (s.coldReset number rate).axisFault = false := s.cold_axisFault
    rw [State.faultOut, sound]
    rfl

/-! ### What holds of a cold station -/

section Sound

variable (s : State)

theorem State.cold_countsInRange : s.cold.CountsInRange := ⟨fun k => by simp, fun k => by simp⟩

theorem State.cold_entries : s.cold.works.entries = [] := List.flatMap_eq_nil_iff.mpr fun h _ => s.cold_queue h

theorem State.cold_queueSound : s.cold.QueueSound := by
  rw [State.QueueSound, State.cold_entries]
  exact ⟨Nat.zero_le _, .nil⟩

theorem State.cold_txSound : s.cold.TxSound :=
  ⟨Nat.zero_le _, Nat.zero_le _, fun _ queued => absurd queued List.not_mem_nil, fun n x record => by simp at record⟩

theorem State.cold_ringsSound : s.cold.RingsSound := fun r used => absurd (s.cold_ringSetting r) used

theorem State.cold_windowsSound : s.cold.WindowsSound := fun k =>
  (congrArg Window.flag (s.cold_window k)).trans (Works.windowFlag_unused (env := s.cold.env) (s.cold_windowSetting k)).symm

theorem State.cold_ownEntrySound : s.cold.OwnEntrySound := by
  rw [State.OwnEntrySound, State.cold_entry]
  exact ⟨rfl, rfl⟩

theorem State.cold_mirrorsSound : s.cold.MirrorsSound :=
  have unseen (i : Fin 6) : (s.cold.mirrors.get i).state ≠ .active := by simp [Mirror.unseen]
  ⟨fun i id axis => by simp at axis, fun _ => unseen, fun i on => absurd on (unseen i)⟩

theorem State.cold_entriesAhead : s.cold.EntriesAhead :=
  ⟨fun _ => s.cold_queue, fun h some => absurd (s.cold_queue h) some, Settings.unconfigured_captures,
    fun h _ e queued => by simp at queued⟩

theorem State.tick_held {s : State} (held : s.held = true) : s.tick = s := if_pos held

end Sound

/-- Settles O54: State.reset is a cold station (`State.reset_cold`), and each invariant holds of every one. -/
theorem resetIsSound : Obligations.ResetIsSound := by
  unfold Obligations.ResetIsSound
  rw [← State.reset_cold]
  exact ⟨State.cold_countsInRange _, State.cold_queueSound _, State.cold_txSound _, State.cold_ringsSound _,
    State.cold_linesSound _, State.cold_ownEntrySound _, State.cold_mirrorsSound _, State.cold_windowsSound _,
    State.cold_entriesAhead _, congrArg _ (State.tick_held (State.cold_held _))⟩

/-! ### The device held in reset (R186) -/

section Held

variable (s : State)

theorem State.cold_hears : s.cold.hears = false := rfl

theorem State.cold_apart : s.cold.bus.station ≠ .rotating := nofun

theorem State.cold_filters : ¬s.cold.filtersRun = true := nofun

theorem State.cold_sampleAB (i : Fin 2) (a b : Bool) : s.cold.sampleAB i a b = s.cold.sampled i a b :=
  State.sampleAB_not_active a b (by simp [LocalAxis.cold])

/-- Console commands are taken in ROTATING alone (R169). -/
theorem State.cold_console {i : Instr} {requester : Station} {tid : Byte} (row : console i = some (requester, tid)) :
    exec i s.cold = .next s.cold := by
  obtain ⟨c, takes, -⟩ := exec_console row
  rw [takes, State.takeCommand_ignored s.cold_apart]

/-- What a row without a level would act on is not there: no frame, no wait, no pulse, no pending change, no ROTATING. -/
theorem State.cold_ignores (i : Instr) (other : ∀ number rate, i ≠ .coldReset number rate) (level : bringsLevel i = false) :
    exec i s.cold = .next s.cold := by
  have deaf (t : State) : (if s.cold.hears then t else s.cold) = s.cold := if_neg (by simp [s.cold_hears])
  cases i with
  | coldReset number rate => exact absurd rfl (other number rate)
  | quad4Edge | pulseDirEdge | upDownEdge | risingZEdge | sensorPinChange | holdInChange => cases level
  | readPass memory miso => exact exec_readPass_elsewhere (.inl s.cold_held) memory miso
  | timedPulseExpiry q =>
    rw [exec_timedPulseExpiry, Works.expire_other fun r g => by simp [Output.released]]
    rfl
  | qualifiedChange k => rw [exec_qualifiedChange, State.qualifyPending_stopped s.cold_filters]
  | holdInQualify => rfl
  | startBit sample =>
    cases sample with
    | start idle stop => rw [exec_startBit, State.busSample_start_deaf s.cold_hears]
    | spike => rfl
    | level _ => cases level
  | receiveFrame bytes => rw [exec_receiveFrame, deaf]
  | frameEndByIdle => rw [exec_frameEndByIdle, deaf]
  | emptyBus => rfl
  | waitExpiry => rfl
  | completion => rfl
  | abort mismatch => rfl
  | resetNAsserted => rw [exec_resetNAsserted, State.cold_cold]
  | _ => exact s.cold_console rfl

end Held

/-- Settles O4: the device held is `State.cold`; a level is followed (`State.sampled` and its like), and every other row finds
nothing to act on (`State.cold_ignores`). -/
theorem resetHoldsTheDevice : Obligations.ResetHoldsTheDevice := by
  intro s
  refine ⟨s.cold, exec_resetNAsserted s, rfl, rfl, rfl, rfl, fun q => ?pins, rfl, fun _ => rfl, ?faultOutN, fun _ _ _ => rfl,
    s.cold_queue, rfl, s.cold_entry, fun i => by simp [LocalAxis.cold], fun i a b => ?ab, fun i z => ?z, fun k level => ?sensor,
    fun level => ?holdIn, fun level => ?rxd, s.cold_ignores, State.tick_held s.cold_held⟩
  case pins => simp [State.outputPin, Output.released]
  case faultOutN => simp [State.faultOutN, s.cold_held]
  case ab =>
    rw [exec_quad4Edge, exec_pulseDirEdge, exec_upDownEdge, State.cold_sampleAB]
    exact ⟨rfl, rfl, rfl⟩
  case z => rw [exec_risingZEdge, State.sampleZ_level (.inr (.inr (.inl (by simp [LocalAxis.cold])))), State.withAxis]
  case sensor => rw [exec_sensorPinChange, State.sensorSample_stopped s.cold_filters, State.withSensor, State.withWorks]
  case holdIn => rw [exec_holdInChange, HoldIn.sample_held _ s.cold_held, State.withHoldIn]
  case rxd =>
    have deaf : ¬s.cold.Hears := fun hears => nomatch hears.running
    rw [exec_startBit, State.busSample_level_followed (.inr deaf), State.withBus]

end Sys2Proof.Machine
end

section
/-! The read passes (R188, R189): what the SPI port shows in one, when it fails, and how LOADING ends INVALID (R192). -/

namespace Sys2Proof.Machine

/-! ### The SPI port (R188, R193) -/

section Port

variable (memory : List Byte) (miso : Bool)

theorem spiByte_length (b : Byte) : (spiByte b).length = 16 := rfl

/-- Two periods for each bit, bit 7 first. -/
theorem spiByte_getD (b : Byte) (d : SpiPins) {r : Nat} (inside : r < 16) :
    (spiByte b).getD r d = ⟨false, decide (r % 2 = 1), some (b.getLsbD (7 - r / 2))⟩ := by
  have order : ∀ k < 8, [7, 6, 5, 4, 3, 2, 1, 0][k]? = some (7 - k) := by decide
  rw [spiByte, getD_flatMap _ 2 (by omega) fun _ => rfl, order (r / 2) (by omega)]
  rcases Nat.mod_two_eq_zero_or_one r with low | high
  · simp [low]
  · simp [high]

/-- The read instruction 03h comes first, and every byte after it is 00h. -/
theorem passSends_getElem? {k : Nat} (inside : k < 3 + passReads memory miso) :
    (passSends memory miso)[k]? = some (if k = 0 then 0x03 else 0x00) := by
  match k with
  | 0 | 1 | 2 => rfl
  | k + 3 =>
    have within : k < passReads memory miso := by omega
    simp [passSends, within]

theorem passSends_length : (passSends memory miso).length = 3 + passReads memory miso := by
  rw [passSends, List.length_append, List.length_replicate]
  rfl

theorem passBits_length : ((passSends memory miso).flatMap spiByte).length = 16 * (3 + passReads memory miso) := by
  rw [List.length_flatMap, List.map_congr_left fun b _ => spiByte_length b, List.map_const', List.sum_replicate,
    passSends_length, smul_eq_mul, Nat.mul_comm]

/-- Only the two low bits of the first byte are 1. -/
theorem instruction_bit (t : Nat) :
    (if t / 16 = 0 then 0x03 else 0x00 : Byte).getLsbD (7 - t % 16 / 2) =
      decide (t = 12 ∨ t = 13 ∨ t = 14 ∨ t = 15) := by
  have first : ∀ t < 16, (0x03 : Byte).getLsbD (7 - t / 2) = decide (t = 12 ∨ t = 13 ∨ t = 14 ∨ t = 15) := by decide
  by_cases inside : t < 16
  · rw [if_pos (by omega), Nat.mod_eq_of_lt inside, first t inside]
  · have later : ¬(t = 12 ∨ t = 13 ∨ t = 14 ∨ t = 15) := by omega
    rw [if_neg (by omega), decide_eq_false later]
    exact BitVec.getLsbD_zero

/-- While bytes are sent the port is selected, CFG_SCK at 0 and then at 1 in each bit. -/
theorem passPins_sending {t : Nat} (sending : t < 16 * (3 + passReads memory miso)) :
    (passPins memory miso).getD t .idle =
      ⟨false, decide (t % 2 = 1), some (decide (t = 12 ∨ t = 13 ∨ t = 14 ∨ t = 15))⟩ := by
  have period : t % 16 % 2 = t % 2 := Nat.mod_mod_of_dvd t (by decide)
  rw [passPins, List.getD_append _ _ _ _ (by rwa [passBits_length]), getD_flatMap spiByte 16 (by decide) spiByte_length,
    passSends_getElem? memory miso (by omega)]
  dsimp only
  rw [spiByte_getD _ _ (Nat.mod_lt t (by decide)), instruction_bit, period]

/-- Then it is deselected. -/
theorem passPins_sent {t : Nat} (sent : 16 * (3 + passReads memory miso) ≤ t) :
    (passPins memory miso).getD t .idle = .idle := by
  rw [passPins, List.getD_append_right _ _ _ _ (by rwa [passBits_length]), List.getD_eq_getElem?_getD]
  exact List.getElem?_getD_replicate_default_eq ..

variable {s : State}

theorem State.spiPins_loading (running : s.held = false) (loading : s.bus.station = .loading) (t : Nat) :
    s.spiPins memory miso t = (passPins memory miso).getD t .idle := if_pos (by simp [State.reading, running, loading])

theorem State.spiPins_elsewhere (elsewhere : s.held = true ∨ s.bus.station ≠ .loading) (t : Nat) :
    s.spiPins memory miso t = .idle := by
  refine if_neg ?_
  rcases elsewhere with held | other
  · simp [State.reading, held]
  · simp [State.reading, other]

end Port

/-! ### When a pass fails (R188) -/

section Pass

variable {memory : List Byte} {miso : Bool}

/-- The bytes that the CRC covers are all but the last two. -/
theorem passBytes_take (memory : List Byte) (miso : Bool) :
    (passBytes memory miso).take (passLength memory miso - 2) =
      (List.range (passLength memory miso - 2)).map (passByte memory miso) := by
  rw [passBytes, ← List.map_take, List.take_range, Nat.min_eq_left (Nat.sub_le _ _)]

theorem passBlock_failed (fails : PassFails memory miso) : passBlock memory miso = none := by
  unfold passBlock
  dsimp only
  split
  · rfl
  · rename_i fits
    rcases fails with short | long | differs
    · exact absurd (.inl short) fits
    · exact absurd (.inr long) fits
    · exact if_neg fun same => differs ((congrArg crc16 (passBytes_take memory miso)).symm.trans same)

theorem passBlock_read (reads : ¬PassFails memory miso) : passBlock memory miso = some (passBytes memory miso) := by
  simp only [PassFails, not_or, not_not] at reads
  obtain ⟨short, long, same⟩ := reads
  exact (if_neg (not_or.mpr ⟨short, long⟩)).trans (if_pos ((congrArg crc16 (passBytes_take memory miso)).trans same))

end Pass

/-! ### Which check fails (R190) -/

section Checks

variable {b : Block} {own : Station}

/-- Of pairs in increasing order of their numbers, the first that holds is the lowest. -/
theorem find?_lowest {n : Nat} {l : List (Nat × Bool)} (sorted : l.Pairwise fun x y => x.1 < y.1) (fails : (n, true) ∈ l)
    (lowest : ∀ m < n, (m, true) ∉ l) : l.find? (fun x => x.2) = some (n, true) := by
  induction l with
  | nil => cases fails
  | cons x l ih =>
    obtain ⟨before, sorted'⟩ := List.pairwise_cons.mp sorted
    obtain ⟨m, holds⟩ := x
    rcases List.mem_cons.mp fails with here | later
    · cases here; rfl
    · cases holds with
      | true => exact absurd List.mem_cons_self (lowest m (before _ later))
      | false => exact ih sorted' later fun k less mem => lowest k less (List.mem_cons_of_mem _ mem)

theorem Block.checks_sorted (b : Block) (own : Station) : (b.checks own).Pairwise fun x y => x.1 < y.1 :=
  List.pairwise_map.mp (show ([2, 3, 4, 5, 6, 7, 8, 9, 10, 11, 12, 13, 14] : List Nat).Pairwise (· < ·) by decide)

/-- The failing check number is that of the lowest check that fails. -/
theorem Block.failing_some {n : Nat} (fails : (n, true) ∈ b.checks own) (lowest : ∀ m < n, (m, true) ∉ b.checks own) :
    b.failing own = some n := by
  rw [Block.failing, find?_lowest (b.checks_sorted own) fails lowest]
  rfl

theorem Block.failing_none (passes : ∀ n, (n, true) ∉ b.checks own) : b.failing own = none := by
  rw [Block.failing, List.find?_eq_none.mpr, Option.map_none]
  rintro ⟨n, holds⟩ mem rfl
  exact passes n mem

end Checks

/-! ### How a pass is judged (R189) -/

section Judged

variable {s : State} {memory : List Byte} {miso : Bool}

theorem State.judgePass_failed (fails : PassFails memory miso) :
    s.judgePass memory miso =
      if s.startup.passCount < 2 then { s with startup := { s.startup with passCount := s.startup.passCount + 1 } }
      else s.degrade 1 := by
  rw [State.judgePass, passBlock_failed fails]

theorem State.judgePass_invalid (reads : ¬PassFails memory miso) {n : Nat}
    (fails : (blockOf (passBytes memory miso)).failing s.bus.number = some n) : s.judgePass memory miso = s.degrade n := by
  rw [State.judgePass, passBlock_read reads]
  dsimp only
  rw [fails]

theorem State.judgePass_valid (reads : ¬PassFails memory miso)
    (passes : (blockOf (passBytes memory miso)).failing s.bus.number = none) :
    s.judgePass memory miso = s.configure (blockOf (passBytes memory miso)).settings := by
  rw [State.judgePass, passBlock_read reads]
  dsimp only
  rw [passes]

end Judged

/-- Settles O5: LOADING ends INVALID in `State.degrade`, after the second failed pass or by the lowest failing check; the port
shows `passPins`. -/
theorem failedLoading : Obligations.FailedLoading := by
  intro s memory miso ended
  have degrade (check : Nat) : s.degrade check = ended check := rfl
  refine ⟨fun running loading fails => ?failed, fun n running loading reads fails lowest => ?invalid,
    fun elsewhere => ⟨exec_readPass_elsewhere elsewhere memory miso, State.spiPins_elsewhere memory miso elsewhere⟩,
    fun running loading t => ⟨fun sending => ?sending, fun sent => ?sent⟩⟩
  case failed => rw [exec_readPass_loading running loading, State.judgePass_failed fails, degrade]
  case invalid =>
    rw [exec_readPass_loading running loading, State.judgePass_invalid reads (Block.failing_some fails lowest), degrade]
  case sending => rw [State.spiPins_loading memory miso running loading, passPins_sending memory miso sending]
  case sent => rw [State.spiPins_loading memory miso running loading, passPins_sent memory miso sent]; rfl

end Sys2Proof.Machine
end

section
/-! The end of LOADING with a valid configuration (R191): the lines under their new condition, and the flags that the windows
hand them (R85, R99). -/

namespace Sys2Proof.Machine

/-! ### Flags handed to a line (R81, R99) -/

section Handed

variable (w : Works) (env : Env)

/-- A line that has taken a flag: it shows it in NORMAL alone. -/
def Output.taking (o : Output) (flag : Bool) : Output :=
  { o with followed := flag, level := if o.condition = .normal then flag else o.level }

/-- Window `k` recomputes to another flag, and line `q` follows it. -/
def Works.Hands (k q : Fin 8) : Prop :=
  (env.cfg.outputs.get q).mode = .window ∧ (env.cfg.outputs.get q).followed = some k ∧
    w.windowFlag env k ≠ (w.windows.get k).flag

variable {w env}

theorem Works.recompute_handed {k q : Fin 8} (hands : w.Hands env k q) :
    (w.recompute env k).outputs.get q = (w.outputs.get q).taking (w.windowFlag env k) :=
  (w.recompute_outputs env k q).trans (if_pos hands)

theorem Works.recompute_not_handed {k q : Fin 8} (none : ¬w.Hands env k q) :
    (w.recompute env k).outputs.get q = w.outputs.get q :=
  (w.recompute_outputs env k q).trans (if_neg none)

theorem Works.recompute_window_ne {k j : Fin 8} (other : j ≠ k) : (w.recompute env j).windows.get k = w.windows.get k := by
  rw [Works.recompute_windows, if_neg other]

/-- What another window hands is as it was. -/
theorem Works.recompute_hands_iff {k j q : Fin 8} (other : j ≠ k) : (w.recompute env j).Hands env k q ↔ w.Hands env k q := by
  have window := Works.recompute_window_ne (w := w) (env := env) other
  simp only [Works.Hands, window, Works.windowFlag_congr env window]

/-- A line follows one window at most. -/
theorem Works.Hands.eq {k j q : Fin 8} (hands : w.Hands env k q) (also : w.Hands env j q) : k = j :=
  Option.some_inj.mp (hands.2.1.symm.trans also.2.1)

/-- The lines after the windows of a list without repeats: those whose window hands a flag have taken it. -/
theorem Works.recomputes_outputs {l : List (Fin 8)} (nodup : l.Nodup) (q : Fin 8) :
    ((∀ k ∈ l, ¬w.Hands env k q) → (l.foldl (fun w k => w.recompute env k) w).outputs.get q = w.outputs.get q) ∧
    ∀ k ∈ l, w.Hands env k q →
      (l.foldl (fun w k => w.recompute env k) w).outputs.get q = (w.outputs.get q).taking (w.windowFlag env k) := by
  induction l generalizing w with
  | nil => exact ⟨fun _ => rfl, nofun⟩
  | cons j js ih =>
    obtain ⟨fresh, nodup'⟩ := List.nodup_cons.mp nodup
    have other {k : Fin 8} (mem : k ∈ js) : j ≠ k := fun e => fresh (e ▸ mem)
    obtain ⟨stays, takes⟩ := ih (w := w.recompute env j) nodup'
    refine ⟨fun none => ?stays, fun k mem hands => ?takes⟩
    case stays =>
      have first := none j List.mem_cons_self
      refine (stays fun k mem => ?_).trans (Works.recompute_not_handed first)
      rw [Works.recompute_hands_iff (other mem)]
      exact none k (List.mem_cons_of_mem _ mem)
    case takes =>
      rcases List.mem_cons.mp mem with rfl | later
      · refine (stays fun i mem => ?_).trans (Works.recompute_handed hands)
        rw [Works.recompute_hands_iff (other mem)]
        exact fun also => other mem (hands.eq also)
      · have first : ¬w.Hands env j q := fun also => other later (also.eq hands)
        have window := Works.recompute_window_ne (w := w) (env := env) (other later)
        refine (takes k later ((Works.recompute_hands_iff (other later)).mpr hands)).trans ?_
        rw [Works.recompute_not_handed first, Works.windowFlag_congr env window]

/-- The lines once every window has recomputed (R85). -/
theorem Works.recomputeAll_outputs (q : Fin 8) :
    ((∀ k, ¬w.Hands env k q) → (w.recomputeAll env).outputs.get q = w.outputs.get q) ∧
    ∀ k, w.Hands env k q → (w.recomputeAll env).outputs.get q = (w.outputs.get q).taking (w.windowFlag env k) := by
  obtain ⟨stays, takes⟩ := Works.recomputes_outputs (w := w) (env := env) (List.nodup_finRange 8) q
  exact ⟨fun none => stays fun k _ => none k, fun k => takes k (List.mem_finRange k)⟩

end Handed

/-! ### The end of LOADING (R191) -/

section Configure

variable (s : State) (c : Settings)

/-- The station with its settings taken, before the lines come under their condition. -/
def State.taken : State :=
  { s with
    startup := { s.startup with status := .valid, failingCheck := 0 }
    cfg := c
    bus := s.bus.listen
    axes := s.axes.change fun i x => x.configured (c.axes.get i)
    rules := Bank.tabulate fun k => ⟨(c.rules.get k).offset, (c.rules.get k).armed⟩
    works := s.works.configured c }

/-- The same, the lines under their condition, before the windows hand their flags. -/
def State.entered : State := (s.taken c).refreshLines

theorem State.configure_eq :
    s.configure c = (s.entered c).withWorks ((s.entered c).works.recomputeAll (s.entered c).env) := rfl

/-- A station that has not joined is in HOLD, so that its lines are FORCED (R88, R164). -/
theorem State.taken_lineCondition : (s.taken c).lineCondition = .forced := by
  have hold : (s.taken c).run = false := rfl
  rw [State.lineCondition_eq, if_neg (by simp [State.taken]), if_neg (by simp [hold])]

theorem State.entered_output (q : Fin 8) :
    (s.entered c).works.outputs.get q = (s.works.outputs.get q).enter (c.outputs.get q) .forced := by
  rw [State.entered, State.refreshLines, State.withWorks_works, Works.enterCondition_outputs, Bank.get_change,
    State.taken_lineCondition]
  rfl

theorem State.entered_window (k : Fin 8) :
    (s.entered c).works.windows.get k = ⟨(c.windows.get k).lower, (c.windows.get k).upper, false⟩ := Bank.get_tabulate ..

theorem State.configure_works :
    (s.configure c).works = { s.works.configured c with
      windows := (s.configure c).works.windows, outputs := (s.configure c).works.outputs } := by
  rw [State.configure_eq, State.withWorks_works, Works.recomputeAll_frame]
  rfl

theorem State.configure_window (k : Fin 8) :
    (s.configure c).works.windows.get k =
      ⟨(c.windows.get k).lower, (c.windows.get k).upper, (s.entered c).works.windowFlag (s.entered c).env k⟩ := by
  have window := (s.entered c).works.recomputeAll_recomputes (s.entered c).env k
  rw [Works.Recomputes, State.entered_window] at window
  exact window

/-- The flags that the windows hand are those that are 1: until now all are 0. -/
theorem State.entered_hands (k q : Fin 8) :
    (s.entered c).works.Hands (s.entered c).env k q ↔
      (c.outputs.get q).mode = .window ∧ (c.outputs.get q).followed = some k ∧
        ((s.configure c).works.windows.get k).flag = true := by
  rw [Works.Hands, State.entered_window, State.configure_window, Ne, Bool.not_eq_false]
  rfl

/-- Each line comes under FORCED, and takes the flag 1 of the window it follows. -/
theorem State.configure_output (q : Fin 8) :
    let forced := (s.works.outputs.get q).enter (c.outputs.get q) .forced
    (s.configure c).works.outputs.get q = { forced with
      followed := forced.followed || decide ((c.outputs.get q).mode = .window) &&
        (c.outputs.get q).followed.any fun k => ((s.configure c).works.windows.get k).flag } := by
  intro forced
  have condition : forced.condition = .forced := Output.enter_condition _
  have entered : (s.entered c).works.outputs.get q = forced := s.entered_output c q
  obtain ⟨stays, takes⟩ := Works.recomputeAll_outputs (w := (s.entered c).works) (env := (s.entered c).env) q
  rw [entered] at stays takes
  by_cases hands : ∃ k, (s.entered c).works.Hands (s.entered c).env k q
  · obtain ⟨k, hands⟩ := hands
    obtain ⟨mode, followed, flag⟩ := (s.entered_hands c k q).mp hands
    refine (takes k hands).trans ?_
    have handed : (s.entered c).works.windowFlag (s.entered c).env k = true := by
      rwa [State.configure_window] at flag
    simp [Output.taking, condition, mode, followed, flag, handed]
  · have none : (decide ((c.outputs.get q).mode = .window) &&
        (c.outputs.get q).followed.any fun k => ((s.configure c).works.windows.get k).flag) = false := by
      rw [Bool.eq_false_iff]
      intro handed
      simp only [Bool.and_eq_true, decide_eq_true_eq, Option.any_eq_true] at handed
      obtain ⟨mode, k, followed, flag⟩ := handed
      exact hands ⟨k, (s.entered_hands c k q).mpr ⟨mode, followed, flag⟩⟩
    rw [none, Bool.or_false]
    exact stays fun k handed => hands ⟨k, handed⟩

end Configure

/-- Coming under FORCED keeps the followed flag. -/
theorem Output.enter_forced_followed (o : Output) (set : OutputSettings) : (o.enter set .forced).followed = o.followed := by
  unfold Output.enter
  split <;> rfl

/-- Settles O6: the station takes its settings (`State.taken`), the lines come under FORCED, and the windows hand the flags that
are 1 (`State.configure_output`). -/
theorem validBlock : Obligations.ValidBlock := by
  intro s memory miso running loading reads passes
  have judged := State.judgePass_valid reads (Block.failing_none passes)
  generalize (blockOf (passBytes memory miso)).settings = c at judged ⊢
  have works := s.configure_works c
  refine ⟨s.configure c, by rw [exec_readPass_loading running loading, judged], rfl, rfl, rfl, rfl, fun i => ?axes,
    fun k => ?rules, fun k => ?sensors, fun r => ?rings, fun k => ⟨?lower, ?upper, State.recomputeAll_windowsSound (s.entered c) k⟩,
    fun q released => ?forced, fun q => ?followed, by rw [works]; rfl, by rw [works]; rfl, by rw [works]; rfl⟩
  case axes => exact Bank.get_change ..
  case rules => exact Bank.get_tabulate ..
  case sensors => rw [works]; exact Bank.get_change ..
  case rings => rw [works]; exact Bank.get_tabulate ..
  case lower => rw [State.configure_window]; rfl
  case upper => rw [State.configure_window]; rfl
  case forced =>
    rw [State.configure_output, Output.enter_forced (by simp [released])]
    exact ⟨rfl, rfl, rfl⟩
  case followed =>
    rw [State.configure_output, Output.enter_forced_followed]
    rfl

end Sys2Proof.Machine
end

section
/-! What the checks of the configuration block (R190) guarantee of the settings it gives: each check read off the records it
speaks of, and then off the settings. -/

namespace Sys2Proof.Machine

/-! ### What the checks are made of -/

/-- No part of a bank is as `p` says. -/
theorem someOf_eq_false {α : Type} {n : Nat} {v : Bank α n} {p : Fin n → α → Bool} :
    someOf v p = false ↔ ∀ i, p i (v.get i) = false := by
  simp [someOf]

theorem inRange_iff (low high n : Nat) : inRange low high n = true ↔ low ≤ n ∧ n ≤ high := by simp [inRange]

/-- A byte names the handle, or the window, whose number it is. -/
theorem handleByte_eq_some {x : Byte} {h : Fin 8} : handleByte x = some h ↔ x.toNat = h.val := by
  unfold handleByte
  split
  · simp [Fin.ext_iff]
  · simp only [reduceCtorEq, false_iff]
    omega

theorem ne_FF_of_handleByte {x : Byte} {h : Fin 8} (named : handleByte x = some h) : x ≠ 0xFF := by
  rintro rfl
  cases named

section Bytes

variable (c : Settings) (b : Block) (x : Byte)

variable {c x} in
theorem Settings.named_of_byteInUse (used : c.byteInUse x = true) : handleByte x ≠ none := by
  intro none
  simp [Settings.byteInUse, none] at used

theorem Settings.byteIsTrack_iff : c.byteIsTrack x = true ↔ ∃ h, handleByte x = some h ∧ c.isTrack h = true := by
  unfold Settings.byteIsTrack
  cases handleByte x <;> simp

theorem Block.byteIsWindow_iff :
    b.byteIsWindow x = true ↔ ∃ k, handleByte x = some k ∧ (b.windows.get k).handle ≠ 0xFF := by
  unfold Block.byteIsWindow
  cases handleByte x <;> simp

variable {c x} {h : Handle} (named : handleByte x = some h)

include named

theorem Settings.inUse_of_byteInUse (used : c.byteInUse x = true) : c.inUse h = true := by
  simpa [Settings.byteInUse, named] using used

/-- The bound of a position is the modulus of a RING axis. -/
theorem Settings.tooFar_eq_false {p : Pos} (fits : c.tooFar x p = false) (ring : (c.geometry h).kind = .ring) :
    p.toNat < (c.geometry h).modulus := by
  simpa [Settings.tooFar, Settings.ringModulus, named, ring] using fits

theorem Settings.ringModulus_track (track : (c.geometry h).kind = .track) : (c.ringModulus x).isNone = true := by
  simp [Settings.ringModulus, named, track]

end Bytes

/-- The actions that check 14 lets through: on an ACTION line, and no pulse of width 0. -/
def Settings.Admits (c : Settings) (a : Option Action) : Prop := ∀ x, a = some x →
  (c.outputs.get x.line).mode = .action ∧ x.operation ≠ .pulseTime 0 ∧ x.operation ≠ .pulseDist 0

theorem Settings.admits_of_not_bad {c : Settings} {a : Option Action} (good : c.badAction a = false) : c.Admits a := by
  rintro x rfl
  simp only [Settings.badAction, Bool.or_eq_false_iff, decide_eq_false_iff_not] at good
  obtain ⟨line, width⟩ := good
  refine ⟨?_, ?_, ?_⟩
  · cases mode : (c.outputs.get x.line).mode with
    | action => rfl
    | window => exact absurd mode line
  · intro empty
    simp [empty, emptyPulse] at width
  · intro empty
    simp [empty, emptyPulse] at width

/-! ### The settings by their records (R191) -/

section Records

variable (b : Block)

theorem Block.settings_axis (i : Fin 2) : b.settings.axes.get i = (b.axes.get i).settings := Bank.get_tabulate ..
theorem Block.settings_mirror (i : Fin 6) : b.settings.mirrors.get i = (b.mirrors.get i).settings := Bank.get_tabulate ..
theorem Block.settings_sensor (k : Fin 4) : b.settings.sensors.get k = (b.sensors.get k).settings := Bank.get_tabulate ..
theorem Block.settings_rule (k : Fin 8) : b.settings.rules.get k = (b.rules.get k).settings := Bank.get_tabulate ..
theorem Block.settings_ring (r : Fin 4) : b.settings.rings.get r = (b.rings.get r).settings := Bank.get_tabulate ..
theorem Block.settings_window (k : Fin 8) : b.settings.windows.get k = (b.windows.get k).settings := Bank.get_tabulate ..
theorem Block.settings_output (q : Fin 8) : b.settings.outputs.get q = (b.outputs.get q).settings := Bank.get_tabulate ..

theorem AxisRecord.settings_ring {r : AxisRecord} : r.settings.kind = .ring ↔ r.flags.getLsbD 3 = true := by
  simp [AxisRecord.settings]

theorem MirrorRecord.settings_ring {r : MirrorRecord} : r.settings.kind = .ring ↔ r.kind = 1 := by
  simp [MirrorRecord.settings]

/-- A mirror subscribes the axis whose id its byte is; a byte of 64 or more leaves it unused. -/
theorem MirrorRecord.settings_lineAxis {r : MirrorRecord} {id : BitVec 6} :
    r.settings.lineAxis = some id ↔ r.id.toNat = id.toNat := by
  have below := id.isLt
  unfold MirrorRecord.settings
  dsimp only
  split
  · rename_i inside
    rw [Option.some_inj, BitVec.toNat_inj.symm, BitVec.toNat_setWidth, Nat.mod_eq_of_lt inside]
  · simp only [reduceCtorEq, false_iff]
    omega

theorem MirrorRecord.ne_FF_of_lineAxis {r : MirrorRecord} {id : BitVec 6} (axis : r.settings.lineAxis = some id) :
    r.id ≠ 0xFF := by
  intro unused
  have below := id.isLt
  have same := MirrorRecord.settings_lineAxis.mp axis
  rw [unused, show (0xFF : Byte).toNat = 255 from rfl] at same
  omega

/-- A sensor has edges of interest with the codes 1 to 3 (R44). -/
theorem SensorRecord.settings_edge {r : SensorRecord} : r.settings.edge ≠ .none ↔ r.edge ≠ 0 ∧ r.edge.toNat ≤ 3 := by
  have zero : r.edge ≠ 0 ↔ r.edge.toNat ≠ 0 := BitVec.toNat_inj.symm.not
  rw [zero]
  unfold SensorRecord.settings
  dsimp only
  split
  case h_1 code | h_2 code | h_3 code => exact iff_of_true nofun (by omega)
  case h_4 one two three =>
    rw [imp_false] at one two three
    exact iff_of_false (not_not.mpr rfl) (by omega)

theorem RuleRecord.settings_sensor {r : RuleRecord} {j : Fin 4} : r.settings.source = .sensor j ↔ r.source.toNat = j.val := by
  unfold RuleRecord.settings
  dsimp only
  split
  · simp [Fin.ext_iff]
  · simp only [reduceCtorEq, false_iff]
    omega

theorem OutputRecord.settings_window {r : OutputRecord} : r.settings.mode = .window ↔ r.flags.getLsbD 0 = true := by
  simp [OutputRecord.settings]

end Records

/-! ### The checks (R190) -/

section Checks

variable {b : Block} {own : Station}

/-- A block without a failing check passes every one of them. -/
theorem Block.passes (all : ∀ n, (n, true) ∉ b.checks own) :
    let c := b.settings
    b.fails2 = false ∧ b.fails3 = false ∧ b.fails4 = false ∧ b.fails5 own = false ∧ b.fails6 = false ∧
      b.fails7 own = false ∧ b.fails8 c = false ∧ b.fails9 = false ∧ b.fails10 = false ∧ b.fails11 c = false ∧
      b.fails12 c = false ∧ b.fails13 = false ∧ b.fails14 c = false := by
  have each : ∀ x ∈ b.checks own, x.2 = false := by
    rintro ⟨n, fails⟩ check
    cases fails with
    | false => rfl
    | true => exact absurd check (all n)
  simpa only [Block.checks, List.forall_mem_cons, List.not_mem_nil, false_imp_iff, implies_true, and_true] using each

theorem Block.limits_of_passes4 (passes : b.fails4 = false) :
    (1 ≤ b.settings.absentLimit ∧ b.settings.absentLimit ≤ 7) ∧
      1 ≤ b.settings.jumpLimit ∧ b.settings.jumpLimit ≤ 16777216 := by
  obtain ⟨absent, jump⟩ := Bool.or_eq_false_iff.mp passes
  rw [Bool.not_eq_false', inRange_iff] at absent jump
  exact ⟨absent, jump⟩

theorem Block.axes_of_passes6 (passes : b.fails6 = false) (i : Fin 2) (ring : (b.settings.axes.get i).kind = .ring) :
    2 ≤ (b.settings.axes.get i).modulus ∧ (b.settings.axes.get i).modulus ≤ 16777216 := by
  obtain ⟨axes, -⟩ := Bool.or_eq_false_iff.mp passes
  rw [Block.settings_axis] at ring ⊢
  have record := someOf_eq_false.mp axes i
  rwa [AxisRecord.settings_ring.mp ring, Bool.true_and, Bool.not_eq_false', inRange_iff] at record

theorem Block.mirrors_of_passes6 (passes : b.fails6 = false) (i : Fin 6) (used : (b.settings.mirrors.get i).lineAxis ≠ none)
    (ring : (b.settings.mirrors.get i).kind = .ring) :
    2 ≤ (b.settings.mirrors.get i).modulus ∧ (b.settings.mirrors.get i).modulus ≤ 16777216 := by
  obtain ⟨-, mirrors⟩ := Bool.or_eq_false_iff.mp passes
  obtain ⟨id, axis⟩ := Option.ne_none_iff_exists'.mp used
  rw [Block.settings_mirror] at axis ring ⊢
  have record := someOf_eq_false.mp mirrors i
  rwa [decide_eq_true (MirrorRecord.ne_FF_of_lineAxis axis), decide_eq_true (MirrorRecord.settings_ring.mp ring),
    Bool.true_and, Bool.true_and, Bool.not_eq_false', inRange_iff] at record

/-- No two mirrors subscribe one axis. -/
theorem Block.mirrors_of_passes7 (passes : b.fails7 own = false) {i j : Fin 6} {id : BitVec 6}
    (first : (b.settings.mirrors.get i).lineAxis = some id) (second : (b.settings.mirrors.get j).lineAxis = some id) :
    i = j := by
  rw [Block.settings_mirror] at first second
  have same : (b.mirrors.get j).id = (b.mirrors.get i).id := BitVec.eq_of_toNat_eq
    ((MirrorRecord.settings_lineAxis.mp second).trans (MirrorRecord.settings_lineAxis.mp first).symm)
  have record := someOf_eq_false.mp passes i
  simp only [Bool.or_eq_false_iff, Bool.and_eq_false_iff, decide_eq_false_iff_not, someOf_eq_false] at record
  obtain ⟨-, unused | apart⟩ := record
  · exact absurd (MirrorRecord.ne_FF_of_lineAxis first) unused
  · rcases apart j with here | other
    · exact not_not.mp here
    · exact absurd same other

theorem Block.sensor_of_passes8 (passes : b.fails8 b.settings = false) (k : Fin 4) :
    (b.sensors.get k).edge.toNat ≤ 3 ∧
      ((b.sensors.get k).edge ≠ 0 → b.settings.byteIsTrack (b.sensors.get k).capture = true) := by
  have record := someOf_eq_false.mp passes k
  simp only [Bool.or_eq_false_iff, Bool.and_eq_false_iff, decide_eq_false_iff_not, Bool.not_eq_false', Nat.not_lt] at record
  obtain ⟨⟨edge, -⟩, unused | track⟩ := record
  · exact ⟨edge, fun used => absurd used unused⟩
  · exact ⟨edge, fun _ => track⟩

/-- A sensor with edges of interest captures on a TRACK handle. -/
theorem Block.capture_of_passes8 (passes : b.fails8 b.settings = false) (k : Fin 4)
    (used : (b.settings.sensors.get k).edge ≠ .none) :
    ∃ h, (b.settings.sensors.get k).capture = some h ∧ b.settings.isTrack h = true := by
  rw [Block.settings_sensor] at used ⊢
  obtain ⟨-, track⟩ := b.sensor_of_passes8 passes k
  exact (Settings.byteIsTrack_iff ..).mp (track (SensorRecord.settings_edge.mp used).1)

/-- A rule of a sensor names one with edges of interest. -/
theorem Block.source_of_passes9 (passes8 : b.fails8 b.settings = false) (passes9 : b.fails9 = false) {k : Fin 8} {j : Fin 4}
    (source : (b.settings.rules.get k).source = .sensor j) : (b.settings.sensors.get j).edge ≠ .none := by
  rw [Block.settings_rule] at source
  have number := RuleRecord.settings_sensor.mp source
  have index : Block.fails9.indexOfSensor (b.rules.get k).source = some j := by
    simp [Block.fails9.indexOfSensor, number]
  have record := someOf_eq_false.mp passes9 k
  simp only [index, Bool.or_eq_false_iff, decide_eq_false_iff_not] at record
  obtain ⟨⟨⟨⟨-, used⟩, -⟩, -⟩, -⟩ := record
  rw [Block.settings_sensor]
  exact SensorRecord.settings_edge.mpr ⟨used, (b.sensor_of_passes8 passes8 j).1⟩

theorem Block.offset_of_passes10 (passes : b.fails10 = false) (k : Fin 8) :
    -1073741824 ≤ (b.settings.rules.get k).offset.toInt ∧ (b.settings.rules.get k).offset.toInt ≤ 1073741824 := by
  rw [Block.settings_rule]
  have record := someOf_eq_false.mp passes k
  rwa [Bool.not_eq_false', Bool.and_eq_true, decide_eq_true_eq, decide_eq_true_eq] at record

/-- A ring in use is on a handle in use, of a length that its entries have, its positions within the axis. -/
theorem Block.ring_of_passes11 {l : List Byte} {c : Settings} (passes : (blockOf l).fails11 c = false) {r : Fin 4}
    {h : Handle} (bound : ((blockOf l).settings.rings.get r).handle = some h) :
    let ring := (blockOf l).settings.rings.get r
    c.inUse h = true ∧ 1 ≤ ring.entries.length ∧ ring.entries.length ≤ 16 ∧
      ((c.geometry h).kind = .ring → ∀ e ∈ ring.entries, e.position.toNat < (c.geometry h).modulus) := by
  intro ring
  have setting : ring = ((blockOf l).rings.get r).settings := Block.settings_ring ..
  have named : handleByte ((blockOf l).rings.get r).handle = some h := by rwa [Block.settings_ring] at bound
  have entries : ring.entries = ((blockOf l).rings.get r).entries.map CamRecord.settings := by
    rw [setting]
    exact if_neg (ne_FF_of_handleByte named)
  have record := someOf_eq_false.mp passes r
  simp only [Bool.or_eq_false_iff, Bool.and_eq_false_iff, Bool.not_eq_false', inRange_iff, List.any_eq_false,
    decide_eq_true_eq, Bool.or_eq_true, not_or, Bool.not_eq_true, decide_eq_false_iff_not] at record
  obtain ⟨-, unused | ⟨⟨inUse, length⟩, records⟩⟩ := record
  · exact absurd (ne_FF_of_handleByte named) unused
  rw [entries, List.length_map, blockOf_ring_length]
  refine ⟨Settings.inUse_of_byteInUse named inUse, length.1, length.2, fun kind e mem => ?_⟩
  obtain ⟨x, mem', rfl⟩ := List.mem_map.mp mem
  exact Settings.tooFar_eq_false named (records x mem').2 kind

/-- A window in use is on a handle in use, its bounds within the axis, or in order on a TRACK axis. -/
theorem Block.window_of_passes12 {c : Settings} (passes : b.fails12 c = false) {k : Fin 8} {h : Handle}
    (bound : (b.settings.windows.get k).handle = some h) :
    let lower := (b.settings.windows.get k).lower
    let upper := (b.settings.windows.get k).upper
    c.inUse h = true ∧ ((c.geometry h).kind = .track → 0 ≤ signedDifference upper lower) ∧
      ((c.geometry h).kind = .ring → lower.toNat < (c.geometry h).modulus ∧ upper.toNat < (c.geometry h).modulus) := by
  rw [Block.settings_window] at bound ⊢
  have named : handleByte (b.windows.get k).handle = some h := bound
  have record := someOf_eq_false.mp passes k
  simp only [Bool.or_eq_false_iff, Bool.and_eq_false_iff, Bool.not_eq_false', decide_eq_false_iff_not] at record
  obtain unused | ⟨⟨⟨inUse, lower⟩, upper⟩, order⟩ := record
  · exact absurd (ne_FF_of_handleByte named) unused
  refine ⟨Settings.inUse_of_byteInUse named inUse, fun track => ?_, fun ring =>
    ⟨Settings.tooFar_eq_false named lower ring, Settings.tooFar_eq_false named upper ring⟩⟩
  rcases order with ring | upward
  · rw [Settings.ringModulus_track named track] at ring
    cases ring
  · exact Int.not_lt.mp upward

/-- A byte that names a window in use names one whose settings are in use. -/
theorem Block.used_of_byteIsWindow {c : Settings} (passes12 : b.fails12 c = false) {x : Byte}
    (window : b.byteIsWindow x = true) : ∃ k, handleByte x = some k ∧ (b.settings.windows.get k).handle ≠ none := by
  obtain ⟨k, named, used⟩ := (Block.byteIsWindow_iff ..).mp window
  have record := someOf_eq_false.mp passes12 k
  simp only [Bool.or_eq_false_iff, Bool.and_eq_false_iff, Bool.not_eq_false', decide_eq_false_iff_not] at record
  obtain unused | ⟨⟨⟨inUse, -⟩, -⟩, -⟩ := record
  · exact absurd used unused
  · refine ⟨k, named, ?_⟩
    rw [Block.settings_window]
    exact Settings.named_of_byteInUse inUse

theorem Block.gate_of_passes9 {c : Settings} (passes9 : b.fails9 = false) (passes12 : b.fails12 c = false) {k g : Fin 8}
    (gate : (b.settings.rules.get k).gate = some g) : (b.settings.windows.get g).handle ≠ none := by
  rw [Block.settings_rule] at gate
  have record := someOf_eq_false.mp passes9 k
  simp only [Bool.or_eq_false_iff, Bool.and_eq_false_iff, decide_eq_false_iff_not, Bool.not_eq_false'] at record
  obtain ⟨-, absent | window⟩ := record
  · exact absurd (ne_FF_of_handleByte gate) absent
  · obtain ⟨k', named, used⟩ := Block.used_of_byteIsWindow passes12 window
    cases named.symm.trans gate
    exact used

theorem Block.output_of_passes13 {c : Settings} (passes12 : b.fails12 c = false) (passes13 : b.fails13 = false) {q : Fin 8}
    (window : (b.settings.outputs.get q).mode = .window) :
    ∃ k, (b.settings.outputs.get q).followed = some k ∧ (b.settings.windows.get k).handle ≠ none := by
  rw [Block.settings_output] at window ⊢
  have record := someOf_eq_false.mp passes13 q
  rw [OutputRecord.settings_window.mp window, Bool.true_and, Bool.not_eq_false'] at record
  exact Block.used_of_byteIsWindow passes12 record

theorem Block.ruleActions_of_passes14 {c : Settings} (passes : b.fails14 c = false) (k : Fin 8) :
    c.Admits (b.settings.rules.get k).action := by
  obtain ⟨rules, -⟩ := Bool.or_eq_false_iff.mp passes
  rw [Block.settings_rule]
  exact Settings.admits_of_not_bad (someOf_eq_false.mp rules k)

theorem Block.camActions_of_passes14 {c : Settings} (passes : b.fails14 c = false) (r : Fin 4) :
    ∀ e ∈ (b.settings.rings.get r).entries, c.Admits e.action := by
  obtain ⟨-, rings⟩ := Bool.or_eq_false_iff.mp passes
  have record := someOf_eq_false.mp rings r
  simp only [Bool.and_eq_false_iff, decide_eq_false_iff_not, List.any_eq_false, Bool.not_eq_true] at record
  rw [Block.settings_ring, RingRecord.settings]
  intro e mem
  dsimp only at mem
  split at mem
  · cases mem
  · rename_i used
    obtain ⟨x, mem', rfl⟩ := List.mem_map.mp mem
    rcases record with unused | good
    · exact absurd used unused
    · exact Settings.admits_of_not_bad (good x mem')

end Checks

/-- Settles O7: each check passes (`Block.passes`), and gives its clause. -/
theorem checkedSettings : Obligations.CheckedSettings := by
  intro l own all c admitted
  obtain ⟨passes2, passes3, passes4, passes5, passes6, passes7, passes8, passes9, passes10, passes11, passes12, passes13,
    passes14⟩ := Block.passes all
  have version : (blockOf l).version = 1 := not_not.mp (decide_eq_false_iff_not.mp passes2)
  obtain ⟨absent, jump⟩ := Block.limits_of_passes4 passes4
  exact ⟨version, not_not.mp (decide_eq_false_iff_not.mp passes3), absent, jump, passes5,
    Block.axes_of_passes6 passes6, Block.mirrors_of_passes6 passes6, fun i _ => Block.publishers_of_passes7 passes7 i,
    fun _ _ _ => Block.mirrors_of_passes7 passes7, Block.capture_of_passes8 passes8,
    fun _ _ => Block.source_of_passes9 passes8 passes9, fun _ _ => Block.gate_of_passes9 passes9 passes12,
    Block.offset_of_passes10 passes10, fun _ _ => Block.ring_of_passes11 passes11,
    fun _ _ => Block.window_of_passes12 passes12, fun _ => Block.output_of_passes13 passes12 passes13,
    Block.ruleActions_of_passes14 passes14, Block.camActions_of_passes14 passes14⟩

end Sys2Proof.Machine
end

section
/-! The notice unit (R195): what one raising makes of each count, and that the order of two raisings cannot be seen. -/

namespace Sys2Proof.Machine

section Raisings

variable (x : Notices) (mask : BitVec 16) (k : NoticeKind)

/-- A kind's counter is the one with the kind's code (R194). -/
theorem Notices.raise_counters_code (j : Fin 19) :
    (x.raise mask k).counters.get j =
      if j.val = k.code.val then min 65535 (x.counters.get j + 1) else x.counters.get j := by
  have own : k.counter = j ↔ j.val = k.code.val := by rw [Fin.ext_iff, eq_comm]; rfl
  rw [Notices.raise_counters, if_congr own rfl rfl]
  split
  · rename_i code
    rw [own.mpr code, countUp]
  · rfl

/-- The pending record of an enabled kind advances, and no other. -/
theorem Notices.raise_pending (j : Fin 16) :
    (x.raise mask k).pending.get j =
      if j = k.code ∧ mask.getLsbD j.val = true then min 255 (x.pending.get j + 1) else x.pending.get j := by
  unfold Notices.raise
  dsimp only
  by_cases enabled : mask.getLsbD k.code.val = true
  · rw [if_pos enabled]
    by_cases own : j = k.code
    · subst own
      rw [if_pos ⟨rfl, enabled⟩]
      exact Bank.get_put_self ..
    · rw [if_neg fun advances => own advances.1]
      exact Bank.get_put_ne _ _ (Ne.symm own)
  · rw [if_neg enabled, if_neg]
    · rfl
    · rintro ⟨rfl, named⟩
      exact enabled named

/-- The counts are in their ranges (R195). -/
def Notices.InRange : Prop := (∀ j, x.counters.get j ≤ 65535) ∧ ∀ j, x.pending.get j ≤ 255

variable {x}

theorem Notices.raise_counters_le (range : ∀ j, x.counters.get j ≤ 65535) (j : Fin 19) :
    (x.raise mask k).counters.get j ≤ 65535 := by
  rw [Notices.raise_counters_code]
  split
  · exact min_le_left ..
  · exact range j

theorem Notices.raise_pending_le (range : ∀ j, x.pending.get j ≤ 255) (j : Fin 16) :
    (x.raise mask k).pending.get j ≤ 255 := by
  rw [Notices.raise_pending]
  split
  · exact min_le_left ..
  · exact range j

theorem Notices.InRange.raise (range : x.InRange) : (x.raise mask k).InRange :=
  ⟨Notices.raise_counters_le mask k range.1, Notices.raise_pending_le mask k range.2⟩

end Raisings

/-- Two notice units with the same counts are one. -/
theorem Notices.ext_get {x y : Notices} (counters : ∀ j, x.counters.get j = y.counters.get j)
    (pending : ∀ j, x.pending.get j = y.pending.get j) : x = y := by
  cases x
  cases y
  exact congrArg₂ Notices.mk (Bank.ext_get pending) (Bank.ext_get counters)

/-- Each count takes its own raisings alone, so two kinds may be raised in either order. -/
theorem Notices.raise_comm (mask : BitVec 16) (k k' : NoticeKind) (x : Notices) :
    (x.raise mask k).raise mask k' = (x.raise mask k').raise mask k := by
  refine Notices.ext_get (fun j => ?_) fun j => ?_
  · simp only [Notices.raise_counters_code]
    split_ifs <;> rfl
  · simp only [Notices.raise_pending]
    split_ifs <;> rfl

/-- Settles O52: what a raising makes of each count (`Notices.raise_counters_code`, `Notices.raise_pending`), and
`Notices.raise_comm`. -/
theorem raisingCounts : Obligations.RaisingCounts := fun mask k x =>
  ⟨x.raise_counters_code mask k, x.raise_pending mask k, Notices.raise_counters_le mask k, Notices.raise_pending_le mask k,
    fun k' => x.raise_comm mask k k'⟩

end Sys2Proof.Machine
end

section
/-! One step and the queue of waiting commands: a command completes from every state, and neither reads nor changes the commands
that wait behind it. Each part of a command commutes with `State.waiting`, which puts other commands into the queue; the proofs
follow the branches of the part, whose conditions do not read the queue. -/

namespace Sys2Proof.Machine

/-- Settles O1: `step` is its two cases. -/
theorem stepTakesFront : Obligations.StepTakesFront := fun _ => ⟨fun _ _ => rfl, rfl⟩

/-- `s` with `l` as the commands that wait. -/
def State.waiting (s : State) (l : List Instr) : State := { s with pending := l }

/-- `a` with `l` as the commands that wait. -/
def Answer.waiting (a : Answer) (l : List Instr) : Answer := { a with state := a.state.waiting l }

/-! ### What the parts of a command read and replace -/

section Updates

variable (s : State) (l : List Instr)

@[simp] theorem State.waiting_cfg : (s.waiting l).cfg = s.cfg := rfl
@[simp] theorem State.waiting_bus : (s.waiting l).bus = s.bus := rfl
@[simp] theorem State.waiting_axes : (s.waiting l).axes = s.axes := rfl
@[simp] theorem State.waiting_mirrors : (s.waiting l).mirrors = s.mirrors := rfl
@[simp] theorem State.waiting_works : (s.waiting l).works = s.works := rfl
@[simp] theorem State.waiting_env : (s.waiting l).env = s.env := rfl
@[simp] theorem State.waiting_withWorks (w : Works) : (s.waiting l).withWorks w = (s.withWorks w).waiting l := rfl
@[simp] theorem State.waiting_withBus (b : Bus) : (s.waiting l).withBus b = (s.withBus b).waiting l := rfl
@[simp] theorem State.waiting_withAxis (i : Fin 2) (x : LocalAxis) :
    (s.waiting l).withAxis i x = (s.withAxis i x).waiting l := rfl

end Updates

/-! ### Parts that are made of parts -/

section Parts

variable {l : List Instr} {c c' : Prop} [Decidable c] [Decidable c']

/-- Two parts, one after the other. -/
theorem State.waiting_then {s t : State} {f : State → State} (one : ∀ s : State, f (s.waiting l) = (f s).waiting l)
    (first : t = s.waiting l) : f t = (f s).waiting l := first ▸ one s

/-- A choice between two parts, by a condition that does not read the queue. -/
theorem State.ite_waiting {a a' b b' : State} (same : c' = c) (left : a' = a.waiting l) (right : b' = b.waiting l) :
    (if c' then a' else b') = (if c then a else b).waiting l := by
  subst same left right
  split <;> rfl

/-- The same for the answer of a command. -/
theorem Answer.ite_waiting {a a' b b' : Answer} (same : c' = c) (left : a' = a.waiting l) (right : b' = b.waiting l) :
    (if c' then a' else b') = (if c then a else b).waiting l := by
  subst same left right
  split <;> rfl

/-- The same for a part that answers with something beside the station. -/
theorem State.pair_ite_waiting {α : Type} {a a' b b' : α × State} (same : c' = c) (left : a' = (a.1, a.2.waiting l))
    (right : b' = (b.1, b.2.waiting l)) :
    (if c' then a' else b') = ((if c then a else b).1, (if c then a else b).2.waiting l) := by
  subst same left right
  split <;> rfl

/-- Parts for several things, one after another. -/
theorem State.foldl_waiting {s t : State} {α : Type} {f : State → α → State} {xs : List α} (first : t = s.waiting l)
    (one : ∀ (s : State) (x : α), f (s.waiting l) x = (f s x).waiting l) : xs.foldl f t = (xs.foldl f s).waiting l := by
  subst first
  induction xs generalizing s with
  | nil => rfl
  | cons x xs ih => rw [List.foldl_cons, one, ih, List.foldl_cons]

end Parts

/-! ### Local axes -/

section LocalAxes

variable (s : State) (l : List Instr) (i : Fin 2)

theorem State.waiting_count (d : Direction) : (s.waiting l).count i d = (s.count i d).waiting l :=
  ite_waiting rfl rfl rfl

theorem State.waiting_quadSample (a b a' b' : Bool) :
    (s.waiting l).quadSample i a b a' b' = (s.quadSample i a b a' b').waiting l := by
  unfold State.quadSample
  split
  · rfl
  · exact s.waiting_count l i _
  · rfl

theorem State.waiting_pulseDirSample (a a' b' : Bool) :
    (s.waiting l).pulseDirSample i a a' b' = (s.pulseDirSample i a a' b').waiting l :=
  ite_waiting rfl (s.waiting_count l i _) rfl

theorem State.waiting_upDownSample (a b a' b' : Bool) :
    (s.waiting l).upDownSample i a b a' b' = (s.upDownSample i a b a' b').waiting l := by
  have both (d d' : Direction) : (((s.withWorks s.works.draw.2).waiting l).count i d).count i d' =
      (((s.withWorks s.works.draw.2).count i d).count i d').waiting l := by
    rw [State.waiting_count, State.waiting_count]
  exact ite_waiting rfl (ite_waiting rfl (both .fwd .rev) (both .rev .fwd))
    (ite_waiting rfl (s.waiting_count l i _) (ite_waiting rfl (s.waiting_count l i _) rfl))

theorem State.waiting_sampleAB (a b : Bool) : (s.waiting l).sampleAB i a b = (s.sampleAB i a b).waiting l := by
  refine ite_waiting rfl ?_ rfl
  dsimp only [State.waiting_cfg, State.waiting_axes, State.waiting_withAxis]
  split
  · rfl
  · exact State.waiting_quadSample ..
  · exact State.waiting_pulseDirSample ..
  · exact State.waiting_upDownSample ..

theorem State.waiting_sampleZ (z : Bool) : (s.waiting l).sampleZ i z = (s.sampleZ i z).waiting l := by
  refine ite_waiting rfl ?_ rfl
  dsimp only [State.waiting_axes]
  split <;> rfl

end LocalAxes

/-! ### Sensors and the hold input -/

section Sensors

variable (s : State) (l : List Instr) (k : Fin 4)

theorem State.waiting_capture : (s.waiting l).capture k = (s.capture k).waiting l := by
  unfold State.capture
  dsimp only [State.waiting_cfg]
  split
  · rfl
  · refine ite_waiting rfl ?_ rfl
    dsimp only [State.waiting_env]
    split <;> rfl

theorem State.waiting_sensorEdge (level : Bool) : (s.waiting l).sensorEdge k level = (s.sensorEdge k level).waiting l :=
  ite_waiting rfl (s.waiting_capture l k) rfl

theorem State.waiting_qualify : (s.waiting l).qualify k = (s.qualify k).waiting l :=
  (s.withSensor k _).waiting_sensorEdge l k _

theorem State.waiting_sensorSample (level : Bool) :
    (s.waiting l).sensorSample k level = (s.sensorSample k level).waiting l :=
  ite_waiting rfl rfl (ite_waiting rfl rfl (ite_waiting rfl ((s.withSensor k _).waiting_qualify l k) (ite_waiting rfl rfl rfl)))

theorem State.waiting_qualifyPending : (s.waiting l).qualifyPending k = (s.qualifyPending k).waiting l :=
  ite_waiting rfl (s.waiting_qualify l k) rfl

theorem State.waiting_holdInQualified : (s.waiting l).holdInQualified = s.holdInQualified.waiting l :=
  ite_waiting rfl rfl rfl

end Sensors

/-! ### Mirrors and the roster -/

section Roster

variable (s : State) (l : List Instr)

theorem State.waiting_staleMirror (i : Fin 6) : (s.waiting l).staleMirror i = (s.staleMirror i).waiting l :=
  ite_waiting rfl rfl rfl

theorem State.waiting_stalePublished (n : Station) (keep : List (Fin 6)) :
    (s.waiting l).stalePublished n keep = (s.stalePublished n keep).waiting l := by
  refine foldl_waiting rfl fun s i => ?_
  exact ite_waiting rfl (s.waiting_staleMirror l i) rfl

theorem State.waiting_restartMirror (i : Fin 6) : (s.waiting l).restartMirror i = (s.restartMirror i).waiting l :=
  ite_waiting rfl rfl rfl

theorem State.waiting_applyReport (i : Fin 6) (r : AxisReport) :
    (s.waiting l).applyReport i r = (s.applyReport i r).waiting l := by
  refine ite_waiting rfl (ite_waiting rfl rfl rfl) (ite_waiting rfl rfl ?_)
  dsimp only [State.waiting_mirrors, State.waiting_cfg]
  split
  · rfl
  · split
    · rfl
    · exact ite_waiting rfl rfl rfl
  · split <;> rfl

theorem State.waiting_miss (j : Station) : (s.waiting l).miss j = (s.miss j).waiting l := by
  refine ite_waiting rfl (ite_waiting rfl ((s.withEntry _ _).waiting_stalePublished l j []) ?_) rfl
  exact waiting_then (f := State.refreshLines) (fun _ => rfl) (((s.withEntry _ _).raise _).waiting_stalePublished l j [])

theorem State.waiting_countMisses (a : Option Station) (k : Station) :
    (s.waiting l).countMisses a k = (s.countMisses a k).waiting l := by
  cases a with
  | none => rfl
  | some a =>
    unfold State.countMisses
    refine foldl_waiting rfl fun s d => ?_
    exact ite_waiting rfl (s.waiting_miss l _) rfl

theorem State.waiting_applyHeader (a : Option Station) (source : Station) (hold : Bool) :
    (s.waiting l).applyHeader a source hold = (s.applyHeader a source hold).waiting l := by
  unfold State.applyHeader
  rw [State.waiting_countMisses]
  rfl

end Roster

/-! ### Console commands -/

section Commands

variable (s : State) (l : List Instr)

theorem State.waiting_onLocalAxis (handle : Byte) {f g : Fin 2 → Answer} (effect : ∀ i, f i = (g i).waiting l) :
    (s.waiting l).onLocalAxis handle f = (s.onLocalAxis handle g).waiting l := by
  unfold State.onLocalAxis
  split
  · rfl
  · exact Answer.ite_waiting rfl rfl (effect _)

/-- A command's own checks and effect. -/
theorem State.waiting_perform (requester : Station) (c : Cmd) :
    (s.waiting l).perform requester c = (s.perform requester c).waiting l := by
  cases c with
  | readStatus page handle =>
    simp only [State.perform, State.readStatus]
    split
    case h_2 => split <;> rfl
    all_goals rfl
  | readQueue handle index =>
    simp only [State.perform, State.readQueue, State.waiting_works]
    split
    · rfl
    · split <;> rfl
  | trimCam ring entry position =>
    simp only [State.perform, State.trimCam, State.waiting_cfg]
    split
    · rfl
    · split
      · rfl
      · exact Answer.ite_waiting rfl rfl rfl
  | trimRule rule offset =>
    simp only [State.perform, State.trimRule]
    split
    · rfl
    · exact Answer.ite_waiting rfl rfl rfl
  | trimWindow window lower upper =>
    simp only [State.perform, State.trimWindow, State.waiting_cfg]
    split
    · rfl
    · split
      · rfl
      · exact Answer.ite_waiting rfl rfl rfl
  | armRule index arm start =>
    simp only [State.perform, State.armRule]
    split <;> rfl
  | armRing index arm start =>
    simp only [State.perform, State.armRing]
    split
    · exact Answer.ite_waiting rfl (Answer.ite_waiting rfl (Answer.ite_waiting rfl rfl rfl) rfl) rfl
    · rfl
  | setOrigin handle value => exact s.waiting_onLocalAxis l handle fun i => Answer.ite_waiting rfl rfl rfl
  | armIndex handle value => exact s.waiting_onLocalAxis l handle fun i => Answer.ite_waiting rfl rfl rfl
  | armIndexCancel handle => exact s.waiting_onLocalAxis l handle fun _ => rfl
  | injectEntry handle due sequence tagClass forward action =>
    simp only [State.perform, State.injectEntry]
    split
    · rfl
    · exact Answer.ite_waiting rfl rfl rfl
  | clearQueue handle =>
    refine Answer.ite_waiting rfl rfl ?_
    split <;> rfl
  | pulseOutput line width =>
    simp only [State.perform, State.pulseOutput]
    split
    · rfl
    · exact Answer.ite_waiting rfl rfl (Answer.ite_waiting rfl rfl rfl)
  | clearCounts | restart | unfit code | unknown code => rfl

theorem State.waiting_execute (requester : Station) (c : Cmd) :
    (s.waiting l).execute requester c = (s.execute requester c).waiting l :=
  Answer.ite_waiting rfl rfl (Answer.ite_waiting rfl rfl (Answer.ite_waiting rfl rfl (s.waiting_perform l requester c)))

theorem State.waiting_takeCommand (requester : Station) (tid : Byte) (c : Cmd) :
    (s.waiting l).takeCommand requester tid c = (s.takeCommand requester tid c).waiting l := by
  refine ite_waiting rfl rfl (ite_waiting rfl rfl ?_)
  have held : (s.waiting l).cached requester tid = s.cached requester tid := rfl
  rw [held, State.waiting_execute]
  split <;> rfl

end Commands

/-! ### The items of a frame -/

section Items

variable (s : State) (l : List Instr) (source : Station)

/-- What an item answers with beside the station (the mirror that took a report, or the list of those that did) is the same
whatever waits. -/
theorem State.waiting_applyAxisItem (r : AxisReport) :
    (s.waiting l).applyAxisItem source r = ((s.applyAxisItem source r).1, (s.applyAxisItem source r).2.waiting l) := by
  unfold State.applyAxisItem
  dsimp only [State.waiting_cfg]
  refine pair_ite_waiting rfl rfl (pair_ite_waiting rfl rfl ?_)
  split
  · rfl
  · exact pair_ite_waiting rfl rfl (pair_ite_waiting rfl rfl (congrArg _ (s.waiting_applyReport l _ r)))

theorem State.waiting_applyItem (taken : List (Fin 6)) (i : Item) :
    (s.waiting l).applyItem source taken i = ((s.applyItem source taken i).1, (s.applyItem source taken i).2.waiting l) := by
  unfold State.applyItem
  split
  · split
    · rfl
    · rw [State.waiting_applyAxisItem]
  · split
    · rfl
    · exact pair_ite_waiting rfl rfl rfl
  · split
    · rfl
    · exact pair_ite_waiting rfl (congrArg _ (s.waiting_takeCommand l source _ _)) rfl
  · rfl

theorem State.waiting_applyItems (taken : List (Fin 6)) (items : List Item) :
    (s.waiting l).applyItems source taken items =
      ((s.applyItems source taken items).1, (s.applyItems source taken items).2.waiting l) := by
  induction items generalizing s taken with
  | nil => rfl
  | cons i rest ih =>
    simp only [State.applyItems, State.waiting_applyItem]
    exact ih ..

theorem State.waiting_applyBody (f : Frame) : (s.waiting l).applyBody f = (s.applyBody f).waiting l := by
  simp only [State.applyBody, State.waiting_applyItems]
  exact State.waiting_stalePublished ..

end Items

/-! ### The bus -/

section BusControl

variable (s : State) (l : List Instr)

theorem State.waiting_join : (s.waiting l).join = s.join.waiting l := rfl

theorem State.waiting_busSample (x : BusSample) : (s.waiting l).busSample x = (s.busSample x).waiting l := by
  cases x with
  | start idle stop => exact ite_waiting rfl rfl rfl
  | spike | level rxd => rfl

theorem State.waiting_ownNumberFrame : (s.waiting l).ownNumberFrame = s.ownNumberFrame.waiting l :=
  ite_waiting rfl rfl rfl

theorem State.waiting_acceptFrame (f : Frame) : (s.waiting l).acceptFrame f = (s.acceptFrame f).waiting l := by
  simp only [State.acceptFrame, State.waiting_works, State.waiting_bus, State.waiting_withWorks, State.waiting_withBus,
    State.waiting_applyHeader, State.waiting_applyBody, State.waiting_join]
  exact ite_waiting rfl (ite_waiting rfl rfl (ite_waiting rfl rfl rfl)) rfl

theorem State.waiting_judgeFrame (bytes : List Byte) :
    (s.waiting l).judgeFrame bytes = (s.judgeFrame bytes).waiting l := by
  unfold State.judgeFrame
  split
  · rfl
  · exact ite_waiting rfl (s.waiting_ownNumberFrame l) (s.waiting_acceptFrame l _)

theorem State.waiting_frameEnd (bytes : List Byte) : (s.waiting l).frameEnd bytes = (s.frameEnd bytes).waiting l := by
  unfold State.frameEnd
  dsimp only [State.waiting_bus]
  split
  · rfl
  · rfl
  · rfl
  · rw [State.waiting_judgeFrame]
    exact ite_waiting rfl rfl rfl

theorem State.waiting_idleEnd : (s.waiting l).idleEnd = s.idleEnd.waiting l := by
  unfold State.idleEnd
  dsimp only [State.waiting_bus]
  split <;> rfl

theorem State.waiting_emptyBus : (s.waiting l).emptyBus = s.emptyBus.waiting l := ite_waiting rfl rfl rfl

theorem State.waiting_startFrame : (s.waiting l).startFrame = s.startFrame.waiting l := ite_waiting rfl rfl rfl

theorem State.waiting_completeRoster (a : Option Station) (f : Flight) :
    (s.waiting l).completeRoster a f = (s.completeRoster a f).waiting l :=
  waiting_then (f := State.refreshLines) (fun _ => rfl) ((s.withEntry _ _).waiting_countMisses l a s.bus.number)

theorem State.waiting_completeFrame (f : Flight) : (s.waiting l).completeFrame f = (s.completeFrame f).waiting l := by
  unfold State.completeFrame
  dsimp only [State.waiting_bus, State.waiting_works, State.waiting_withBus, State.waiting_withWorks]
  refine ite_waiting rfl (State.waiting_completeRoster _ l _ f) (ite_waiting rfl (State.waiting_completeRoster _ l _ f) ?_)
  rw [State.waiting_completeRoster]
  rfl

theorem State.waiting_warmRestart : (s.waiting l).warmRestart = s.warmRestart.waiting l :=
  waiting_then (f := fun t => t.refreshLines.withWorks (t.refreshLines.works.recomputeAll t.refreshLines.env))
    (fun _ => rfl) (foldl_waiting rfl fun s i => s.waiting_restartMirror l i)

theorem State.waiting_complete : (s.waiting l).complete = s.complete.waiting l := by
  unfold State.complete
  dsimp only [State.waiting_bus]
  split
  · rfl
  · rw [State.waiting_completeFrame, State.waiting_warmRestart]
    exact ite_waiting rfl rfl rfl

theorem State.waiting_abortFrame (x : Mismatch) : (s.waiting l).abortFrame x = (s.abortFrame x).waiting l := by
  unfold State.abortFrame
  dsimp only [State.waiting_bus]
  split <;> rfl

end BusControl

/-! ### Start-up -/

theorem State.waiting_judgePass (s : State) (l : List Instr) (memory : List Byte) (miso : Bool) :
    (s.waiting l).judgePass memory miso = (s.judgePass memory miso).waiting l := by
  unfold State.judgePass
  split
  · exact ite_waiting rfl rfl rfl
  · dsimp only [State.waiting_bus]
    split <;> rfl

/-! ### The rows -/

/-- Whatever waits behind it, a command completes and acts alike. -/
theorem exec_waiting (c : Instr) (s : State) (l : List Instr) :
    ∃ t, exec c s = .next t ∧ exec c (s.waiting l) = .next (t.waiting l) := by
  cases c with
  | coldReset number rate => exact ⟨_, rfl, rfl⟩
  | readPass memory miso => exact ⟨_, rfl, congrArg _ (State.ite_waiting rfl (s.waiting_judgePass l memory miso) rfl)⟩
  | quad4Edge axis a b => exact ⟨_, rfl, congrArg _ (s.waiting_sampleAB l axis a b)⟩
  | pulseDirEdge axis a b => exact ⟨_, rfl, congrArg _ (s.waiting_sampleAB l axis a b)⟩
  | upDownEdge axis a b => exact ⟨_, rfl, congrArg _ (s.waiting_sampleAB l axis a b)⟩
  | risingZEdge axis z => exact ⟨_, rfl, congrArg _ (s.waiting_sampleZ l axis z)⟩
  | timedPulseExpiry line => exact ⟨_, rfl, rfl⟩
  | sensorPinChange sensor level => exact ⟨_, rfl, congrArg _ (s.waiting_sensorSample l sensor level)⟩
  | qualifiedChange sensor => exact ⟨_, rfl, congrArg _ (s.waiting_qualifyPending l sensor)⟩
  | holdInChange level => exact ⟨_, rfl, rfl⟩
  | holdInQualify => exact ⟨_, rfl, congrArg _ (s.waiting_holdInQualified l)⟩
  | startBit sample => exact ⟨_, rfl, congrArg _ (s.waiting_busSample l sample)⟩
  | receiveFrame bytes => exact ⟨_, rfl, congrArg _ (State.ite_waiting rfl (s.waiting_frameEnd l bytes) rfl)⟩
  | frameEndByIdle => exact ⟨_, rfl, congrArg _ (State.ite_waiting rfl (s.waiting_idleEnd l) rfl)⟩
  | emptyBus => exact ⟨_, rfl, congrArg _ (s.waiting_emptyBus l)⟩
  | waitExpiry => exact ⟨_, rfl, congrArg _ (s.waiting_startFrame l)⟩
  | completion => exact ⟨_, rfl, congrArg _ (s.waiting_complete l)⟩
  | abort mismatch => exact ⟨_, rfl, congrArg _ (s.waiting_abortFrame l mismatch)⟩
  | resetNAsserted => exact ⟨_, rfl, rfl⟩
  | _ => exact ⟨_, rfl, congrArg _ (s.waiting_takeCommand l ..)⟩

/-- Settles O2: a command acts alike whatever waits (`exec_waiting`), so also when what waits is what it finds waiting. -/
theorem everyCommandCompletes : Obligations.EveryCommandCompletes := by
  intro c s l
  obtain ⟨t, completes, alike⟩ := exec_waiting c s l
  obtain ⟨t', completes', same⟩ := exec_waiting c s s.pending
  refine ⟨t, completes, ?_, alike⟩
  have found : exec c (s.waiting s.pending) = .next t := completes
  rw [same] at found
  cases found
  rfl

end Sys2Proof.Machine
end

section
/-! What the blocks that axis events, tags and actions work on keep of the two bounds of the station: the ranges of the counts
(R195), and the places of the transmit queue (R145). -/

namespace Sys2Proof.Machine

/-! ### The counts (R195) -/

section Counts

variable {x : Notices}

theorem Notices.InRange.count (range : x.InRange) (k : Fin 19) : (x.count k).InRange := by
  refine ⟨fun j => ?_, range.2⟩
  rw [Notices.count, Bank.get_put]
  split
  · exact min_le_left ..
  · exact range.1 j

theorem Notices.InRange.raised (range : x.InRange) (mask : BitVec 16) (k : NoticeKind) (n : Nat) :
    (x.raised mask k n).InRange := by
  induction n generalizing x with
  | zero => exact range
  | succ n ih => exact ih (range.raise mask k)

/-- What a completion takes off the pending records makes none of them greater (R196). -/
theorem Notices.subtract_pending_le (l : List (NoticeKind × Nat)) (j : Fin 16) :
    (x.subtract l).pending.get j ≤ x.pending.get j := by
  induction l generalizing x with
  | nil => exact le_rfl
  | cons p l ih =>
    rw [Notices.subtract_cons]
    refine ih.trans ?_
    rw [Bank.get_put]
    split
    · rename_i same
      exact same ▸ Nat.sub_le ..
    · exact le_rfl

theorem Notices.InRange.subtract (range : x.InRange) (l : List (NoticeKind × Nat)) : (x.subtract l).InRange :=
  ⟨fun j => by rw [Notices.subtract_counters]; exact range.1 j, fun j => (x.subtract_pending_le l j).trans (range.2 j)⟩

end Counts

/-! ### The transmit queue (R145) -/

/-- At most 12 tags and 4 responses wait, no response with more than 12 data bytes (R145, R153). -/
structure Works.SendsInBounds (w : Works) : Prop where
  tags : w.tagsHeld ≤ 12
  responses : w.responsesHeld ≤ 4
  data : ∀ r, .rsp r ∈ w.txQueue → r.data.length ≤ 12

section Sends

variable {w t : Works}

theorem Works.SendsInBounds.of_sublist (sends : w.SendsInBounds) (fewer : t.txQueue.Sublist w.txQueue) : t.SendsInBounds :=
  ⟨fewer.countP_le.trans sends.tags, fewer.countP_le.trans sends.responses, fun r mem => sends.data r (fewer.subset mem)⟩

/-- A tag that finds a place. -/
theorem Works.SendsInBounds.tag (sends : w.SendsInBounds) {x : Tag} (room : w.tagsHeld < 12)
    (tail : t.txQueue = w.txQueue ++ [.tag x]) : t.SendsInBounds := by
  refine ⟨?_, ?_, fun r mem => ?_⟩
  · rw [Works.tagsHeld, tail, List.countP_append]
    exact room
  · rw [Works.responsesHeld, tail, List.countP_append]
    exact sends.responses
  · rw [tail] at mem
    exact sends.data r (by simpa using mem)

/-- A response that finds a place. -/
theorem Works.SendsInBounds.response (sends : w.SendsInBounds) {x : Response} (room : w.responsesHeld < 4)
    (short : x.data.length ≤ 12) (tail : t.txQueue = w.txQueue ++ [.rsp x]) : t.SendsInBounds := by
  refine ⟨?_, ?_, fun r mem => ?_⟩
  · rw [Works.tagsHeld, tail, List.countP_append]
    exact sends.tags
  · rw [Works.responsesHeld, tail, List.countP_append]
    exact room
  · rw [tail, List.mem_append, List.mem_singleton, TxItem.rsp.injEq] at mem
    rcases mem with queued | rfl
    · exact sends.data r queued
    · exact short

end Sends

/-! ### What keeps both -/

/-- From `w` to `t` the counts stay in their ranges and the transmit queue in its places. -/
structure Works.KeepsBounds (w t : Works) : Prop where
  counts : w.notices.InRange → t.notices.InRange
  sends : w.SendsInBounds → t.SendsInBounds

section Keeps

variable {w t u : Works}

theorem Works.KeepsBounds.refl (w : Works) : w.KeepsBounds w := ⟨id, id⟩

theorem Works.KeepsBounds.trans (a : w.KeepsBounds t) (b : t.KeepsBounds u) : w.KeepsBounds u :=
  ⟨b.counts ∘ a.counts, b.sends ∘ a.sends⟩

theorem Works.KeepsBounds.foldl {α : Type} {f : Works → α → Works} (one : ∀ (w : Works) (x : α), w.KeepsBounds (f w x))
    (l : List α) (w : Works) : w.KeepsBounds (l.foldl f w) :=
  foldl_frame f Works.KeepsBounds .refl (fun _ _ _ a b => a.trans b) one l w

theorem Works.KeepsBounds.ite {c : Prop} [Decidable c] (yes : w.KeepsBounds t) (no : w.KeepsBounds u) :
    w.KeepsBounds (if c then t else u) := by
  split
  · exact yes
  · exact no

/-- Neither the notices nor the transmit queue change. -/
theorem Works.KeepsBounds.same (notices : t.notices = w.notices) (txQueue : t.txQueue = w.txQueue) : w.KeepsBounds t :=
  ⟨fun range => notices ▸ range, fun sends => sends.of_sublist (txQueue ▸ .refl _)⟩

/-- A notice is raised, any number of times. -/
theorem Works.KeepsBounds.raised {mask : BitVec 16} {k : NoticeKind} {n : Nat} (notices : t.notices = w.notices.raised mask k n)
    (txQueue : t.txQueue = w.txQueue) : w.KeepsBounds t :=
  ⟨fun range => notices ▸ range.raised mask k n, fun sends => sends.of_sublist (txQueue ▸ .refl _)⟩

end Keeps

section Blocks

variable (w : Works) (env : Env) (h : Handle)

theorem Works.raise_keepsBounds (k : NoticeKind) : w.KeepsBounds (w.raise env k) := .raised (n := 1) rfl rfl

theorem Works.count_keepsBounds (k : Fin 19) : w.KeepsBounds (w.count k) := ⟨fun range => range.count k, fun sends =>
  sends.of_sublist (.refl _)⟩

/-! ### Entries, offers and tags -/

theorem Works.offerTag_keepsBounds (t : Tag) : w.KeepsBounds (w.offerTag env t) := by
  unfold Works.offerTag
  split
  · rename_i room
    exact ⟨id, fun sends => sends.tag room rfl⟩
  · exact w.raise_keepsBounds env _

theorem Works.leave_keepsBounds (e : Entry) : w.KeepsBounds (w.leave env h e) := by
  have forwards (w : Works) : w.KeepsBounds (w.forwardTag env h e) := by
    refine .ite ?_ (.refl w)
    split
    · exact w.offerTag_keepsBounds env _
    · exact .refl w
  exact .trans (.ite (.refl w) (w.raise_keepsBounds env _)) (forwards _)

theorem Works.lateFire_keepsBounds (e : Entry) : w.KeepsBounds (w.lateFire env h e) :=
  have ⟨txQueue, notices⟩ := w.lateFire_sends env h e
  (w.raise_keepsBounds env .lateFire).trans ((Works.leave_keepsBounds _ env h e).trans (.same notices txQueue))

theorem Works.offer_keepsBounds (e : Entry) : w.KeepsBounds (w.offer env h e).2 := by
  unfold Works.offer
  dsimp only
  split_ifs
  case pos => exact w.raise_keepsBounds env _
  case pos => exact w.raise_keepsBounds env _
  case pos => exact w.raise_keepsBounds env _
  case pos => exact .same rfl rfl
  case neg => exact w.raise_keepsBounds env _
  case pos => exact w.lateFire_keepsBounds env h e
  case neg => exact w.raise_keepsBounds env _

theorem Works.rulesTake_keepsBounds (src : RuleSource) (t : Tag) : w.KeepsBounds (w.rulesTake env h src t) :=
  .foldl (fun w _ => .ite (w.offer_keepsBounds env h _) (.refl w)) _ w

theorem Works.remoteTag_keepsBounds (t : Tag) : w.KeepsBounds (w.remoteTag env t) := by
  unfold Works.remoteTag
  split
  · exact w.raise_keepsBounds env _
  · exact .ite (w.raise_keepsBounds env _) (w.rulesTake_keepsBounds env _ _ t)

theorem Works.publish_keepsBounds (k : Fin 4) (t : Tag) : w.KeepsBounds (w.publish env k t) :=
  .ite (w.offerTag_keepsBounds env t) (.refl w)

theorem Works.localTag_keepsBounds (k : Fin 4) (t : Tag) : w.KeepsBounds (w.localTag env h k t) := by
  have drawn : w.KeepsBounds w.draw.2 := .same rfl rfl
  exact .ite
    (.ite (drawn.trans ((Works.rulesTake_keepsBounds _ env h _ t).trans (Works.publish_keepsBounds _ env k t)))
      (drawn.trans ((Works.publish_keepsBounds _ env k t).trans (Works.rulesTake_keepsBounds _ env h _ t))))
    ((w.rulesTake_keepsBounds env h _ t).trans (Works.publish_keepsBounds _ env k t))

/-! ### The events of a handle -/

theorem Works.positionEvent_keepsBounds (m : Move) : w.KeepsBounds (w.positionEvent env h m) := by
  cases dir : m.dir with
  | fwd =>
    obtain ⟨txQueue, notices⟩ := w.positionEvent_fwd env h m dir
    have uncrossed : w.KeepsBounds (w.uncrossed env h m) := .same rfl rfl
    exact (uncrossed.trans (.foldl (fun w e => w.leave_keepsBounds env h e) _ _)).trans (.same notices txQueue)
  | rev =>
    obtain ⟨txQueue, notices⟩ := w.positionEvent_rev env h m dir
    exact .raised notices txQueue

theorem Works.silentPassage_keepsBounds (m : Move) : w.KeepsBounds (w.silentPassage env h m) := by
  rw [Works.silentPassage_eq]
  exact .raised (Works.recomputeOn_notices ..) (Works.recomputeOn_txQueue ..)

theorem Works.epochChange_keepsBounds : w.KeepsBounds (w.epochChange env h) := by
  rw [Works.epochChange_eq]
  exact .raised (Works.recomputeOn_notices ..) (Works.recomputeOn_txQueue ..)

theorem Works.becomesActive_keepsBounds : w.KeepsBounds (w.becomesActive env h) := by
  rw [Works.becomesActive_eq]
  exact .raised (Works.recomputeOn_notices ..) (Works.recomputeOn_txQueue ..)

theorem Works.stopsBeingActive_keepsBounds : w.KeepsBounds (w.stopsBeingActive env h) := by
  rw [Works.stopsBeingActive_eq]
  exact .same (Works.recomputeOn_notices ..) (Works.recomputeOn_txQueue ..)

/-! ### Windows, lines and completions -/

theorem Works.recomputeAll_keepsBounds : w.KeepsBounds (w.recomputeAll env) :=
  .same (by rw [w.recomputeAll_frame env]) (by rw [w.recomputeAll_frame env])

theorem Works.act_keepsBounds (src : Option Handle) (a : Action) : w.KeepsBounds (w.act env src a) :=
  .same (by rw [w.act_frame env src a]) (by rw [w.act_frame env src a])

theorem Works.expire_keepsBounds (q : Fin 8) : w.KeepsBounds (w.expire q) :=
  .same (by rw [w.expire_frame q]) (by rw [w.expire_frame q])

theorem Works.completeItems_keepsBounds (f : Flight) : w.KeepsBounds (w.completeItems f) :=
  ⟨id, fun sends => sends.of_sublist (List.drop_sublist ..)⟩

theorem Works.completeNotes_keepsBounds (f : Flight) : w.KeepsBounds (w.completeNotes f) :=
  ⟨fun range => (range.subtract f.notes).count framesSent, fun sends => sends.of_sublist (.refl _)⟩

theorem Works.restart_keepsBounds : w.KeepsBounds w.restart :=
  ⟨fun range => ⟨range.1, fun _ => (Bank.get_fill ..).trans_le (Nat.zero_le _)⟩, fun sends =>
    sends.of_sublist (List.nil_sublist _)⟩

end Blocks

end Sys2Proof.Machine
end

section
/-! What every step keeps: the counts of the notice unit in their ranges (R195), the transmit queue in its places (R145), and the
responses, queued or stored, within 12 data bytes (R153). Each part of a step keeps both. -/

namespace Sys2Proof.Machine

/-- From `s` to `t` the counts stay in their ranges and what is to be sent in its bounds, each for itself. -/
structure State.KeepsBounds (s t : State) : Prop where
  counts : s.CountsInRange → t.CountsInRange
  sends : s.TxSound → t.TxSound

theorem State.txSound_iff (s : State) :
    s.TxSound ↔ s.works.SendsInBounds ∧ ∀ n x, s.command.cache.get n = some x → x.response.data.length ≤ 12 :=
  ⟨fun ⟨tags, responses, data, records⟩ => ⟨⟨tags, responses, data⟩, records⟩,
    fun ⟨⟨tags, responses, data⟩, records⟩ => ⟨tags, responses, data, records⟩⟩

section

variable {s t u : State}

theorem State.KeepsBounds.refl (s : State) : s.KeepsBounds s := ⟨id, id⟩

theorem State.KeepsBounds.trans (a : s.KeepsBounds t) (b : t.KeepsBounds u) : s.KeepsBounds u :=
  ⟨b.counts ∘ a.counts, b.sends ∘ a.sends⟩

/-- The same, the later part first. -/
theorem State.KeepsBounds.after (b : t.KeepsBounds u) (a : s.KeepsBounds t) : s.KeepsBounds u := a.trans b

theorem State.KeepsBounds.foldl {α : Type} {f : State → α → State} (one : ∀ (s : State) (x : α), s.KeepsBounds (f s x))
    (l : List α) (s : State) : s.KeepsBounds (l.foldl f s) :=
  foldl_frame f State.KeepsBounds .refl (fun _ _ _ a b => a.trans b) one l s

theorem State.KeepsBounds.ite {c : Prop} [Decidable c] (yes : s.KeepsBounds t) (no : s.KeepsBounds u) :
    s.KeepsBounds (if c then t else u) := by
  split
  · exact yes
  · exact no

/-- A part that stores no response is judged by what it makes of the consumer blocks. -/
theorem State.KeepsBounds.of_works (cache : t.command.cache = s.command.cache) (works : s.works.KeepsBounds t.works) :
    s.KeepsBounds t := by
  refine ⟨works.counts, fun sound => ?_⟩
  rw [State.txSound_iff] at sound ⊢
  exact ⟨works.sends sound.1, cache ▸ sound.2⟩

/-- A part that raises, offers and answers nothing. -/
theorem State.KeepsBounds.quiet (cache : t.command.cache = s.command.cache) (notices : t.works.notices = s.works.notices)
    (txQueue : t.works.txQueue = s.works.txQueue) : s.KeepsBounds t := .of_works cache (.same notices txQueue)

theorem State.withWorks_keepsBounds {w : Works} (works : s.works.KeepsBounds w) : s.KeepsBounds (s.withWorks w) :=
  .of_works rfl works

end

/-! ### Updates of the station -/

section Updates

variable (s : State) (h : Handle)

theorem State.withBus_keepsBounds (b : Bus) : s.KeepsBounds (s.withBus b) := .quiet rfl rfl rfl

theorem State.withEntry_keepsBounds (n : Fin 32) (e : RosterEntry) : s.KeepsBounds (s.withEntry n e) := .quiet rfl rfl rfl

theorem State.refreshLines_keepsBounds : s.KeepsBounds s.refreshLines := .quiet rfl rfl rfl

theorem State.draw_keepsBounds : s.KeepsBounds (s.withWorks s.works.draw.2) := .quiet rfl rfl rfl

theorem State.raise_keepsBounds (k : NoticeKind) : s.KeepsBounds (s.raise k) :=
  withWorks_keepsBounds (s.works.raise_keepsBounds s.env k)

theorem State.positionEvent_keepsBounds (m : Move) : s.KeepsBounds (s.positionEvent h m) :=
  withWorks_keepsBounds (s.works.positionEvent_keepsBounds s.env h m)

theorem State.silentPassage_keepsBounds (m : Move) : s.KeepsBounds (s.silentPassage h m) :=
  withWorks_keepsBounds (s.works.silentPassage_keepsBounds s.env h m)

theorem State.epochChange_keepsBounds : s.KeepsBounds (s.epochChange h) :=
  withWorks_keepsBounds (s.works.epochChange_keepsBounds s.env h)

theorem State.becomesActive_keepsBounds : s.KeepsBounds (s.becomesActive h) :=
  withWorks_keepsBounds (s.works.becomesActive_keepsBounds s.env h)

theorem State.stopsBeingActive_keepsBounds : s.KeepsBounds (s.stopsBeingActive h) :=
  withWorks_keepsBounds (s.works.stopsBeingActive_keepsBounds s.env h)

theorem State.recomputeAll_keepsBounds : s.KeepsBounds (s.withWorks (s.works.recomputeAll s.env)) :=
  withWorks_keepsBounds (s.works.recomputeAll_keepsBounds s.env)

end Updates

/-! ### Local axes -/

section LocalAxes

variable (s : State) (i : Fin 2)

theorem State.withAxis_keepsBounds (x : LocalAxis) : s.KeepsBounds (s.withAxis i x) := .quiet rfl rfl rfl

theorem State.count_keepsBounds (d : Direction) : s.KeepsBounds (s.count i d) :=
  .ite ((s.withAxis_keepsBounds i _).trans (State.positionEvent_keepsBounds _ _ _)) (.refl s)

theorem State.encoderFault_keepsBounds : s.KeepsBounds (s.encoderFault i) :=
  (s.withAxis_keepsBounds i _).trans ((State.raise_keepsBounds _ _).trans
    ((State.stopsBeingActive_keepsBounds _ _).trans (State.refreshLines_keepsBounds _)))

theorem State.originEvent_keepsBounds (v : Pos) : s.KeepsBounds (s.originEvent i v) :=
  (s.withAxis_keepsBounds i _).trans ((State.epochChange_keepsBounds _ _).trans (State.refreshLines_keepsBounds _))

theorem State.quadSample_keepsBounds (a b a' b' : Bool) : s.KeepsBounds (s.quadSample i a b a' b') := by
  unfold State.quadSample
  split
  · exact .refl s
  · exact s.count_keepsBounds i _
  · exact s.encoderFault_keepsBounds i

theorem State.pulseDirSample_keepsBounds (a a' b' : Bool) : s.KeepsBounds (s.pulseDirSample i a a' b') :=
  .ite (s.count_keepsBounds i _) (.refl s)

theorem State.upDownSample_keepsBounds (a b a' b' : Bool) : s.KeepsBounds (s.upDownSample i a b a' b') := by
  have both (d d' : Direction) : s.KeepsBounds (((s.withWorks s.works.draw.2).count i d).count i d') :=
    s.draw_keepsBounds.trans ((State.count_keepsBounds _ i d).trans (State.count_keepsBounds _ i d'))
  exact .ite (.ite (both .fwd .rev) (both .rev .fwd))
    (.ite (s.count_keepsBounds i _) (.ite (s.count_keepsBounds i _) (.refl s)))

theorem State.sampleAB_keepsBounds (a b : Bool) : s.KeepsBounds (s.sampleAB i a b) := by
  refine (s.withAxis_keepsBounds i _).trans (.ite ?_ (.refl _))
  split
  · exact .refl _
  · exact State.quadSample_keepsBounds ..
  · exact State.pulseDirSample_keepsBounds ..
  · exact State.upDownSample_keepsBounds ..

theorem State.sampleZ_keepsBounds (z : Bool) : s.KeepsBounds (s.sampleZ i z) := by
  refine (s.withAxis_keepsBounds i _).trans (.ite ?_ (.refl _))
  split
  · exact State.originEvent_keepsBounds _ i _
  · exact .refl _

end LocalAxes

/-! ### Sensors and the hold input -/

section Sensors

variable (s : State) (k : Fin 4)

theorem State.makeTag_keepsBounds (h : Handle) (id : BitVec 6) : s.KeepsBounds (s.makeTag k h id) :=
  .of_works rfl ((s.works.localTag_keepsBounds _ h k _).trans (.same rfl rfl))

theorem State.capture_keepsBounds : s.KeepsBounds (s.capture k) := by
  unfold State.capture
  split
  · exact .refl s
  · refine .ite ?_ (s.raise_keepsBounds _)
    split
    · exact s.makeTag_keepsBounds k _ _
    · exact .refl s

theorem State.withSensor_keepsBounds (x : Sensor) : s.KeepsBounds (s.withSensor k x) := .quiet rfl rfl rfl

theorem State.qualify_keepsBounds : s.KeepsBounds (s.qualify k) :=
  (s.withSensor_keepsBounds k _).trans (.ite (State.capture_keepsBounds _ k) (.refl _))

theorem State.sensorSample_keepsBounds (level : Bool) : s.KeepsBounds (s.sensorSample k level) :=
  have sensor (x : Sensor) := s.withSensor_keepsBounds k x
  .ite (sensor _) (.ite (sensor _) (.ite ((sensor _).trans (State.qualify_keepsBounds _ k)) (.ite (sensor _) (sensor _))))

theorem State.qualifyPending_keepsBounds : s.KeepsBounds (s.qualifyPending k) := .ite (s.qualify_keepsBounds k) (.refl s)

theorem State.holdInQualified_keepsBounds : s.KeepsBounds s.holdInQualified := .ite (.quiet rfl rfl rfl) (.refl s)

end Sensors

/-! ### Mirrors and the roster -/

section Roster

variable (s : State)

theorem State.withMirror_keepsBounds (i : Fin 6) (m : Mirror) : s.KeepsBounds (s.withMirror i m) := .quiet rfl rfl rfl

theorem State.staleMirror_keepsBounds (i : Fin 6) : s.KeepsBounds (s.staleMirror i) :=
  .ite ((s.withMirror_keepsBounds i _).trans ((State.raise_keepsBounds _ _).trans (State.stopsBeingActive_keepsBounds _ _)))
    (.refl s)

theorem State.stalePublished_keepsBounds (n : Station) (keep : List (Fin 6)) : s.KeepsBounds (s.stalePublished n keep) :=
  .foldl (fun s i => .ite (s.staleMirror_keepsBounds i) (.refl s)) _ s

theorem State.restartMirror_keepsBounds (i : Fin 6) : s.KeepsBounds (s.restartMirror i) :=
  have unseen := s.withMirror_keepsBounds i .unseen
  .ite (unseen.trans (State.stopsBeingActive_keepsBounds _ _)) unseen

theorem State.applyReport_keepsBounds (i : Fin 6) (r : AxisReport) : s.KeepsBounds (s.applyReport i r) := by
  have takes (m : Mirror) := s.withMirror_keepsBounds i m
  refine .ite (.ite ((takes _).trans (State.stopsBeingActive_keepsBounds _ _)) (takes _))
    (.ite ((takes _).trans (State.epochChange_keepsBounds _ _)) ((takes ((s.mirrors.get i).takes r)).trans ?_))
  split
  · exact State.becomesActive_keepsBounds _ _
  · split
    · exact .refl _
    · exact .ite (State.positionEvent_keepsBounds _ _ _)
        ((State.raise_keepsBounds _ _).trans (State.silentPassage_keepsBounds _ _ _))
  · split
    · exact State.becomesActive_keepsBounds _ _
    · exact (State.becomesActive_keepsBounds _ _).trans (State.silentPassage_keepsBounds _ _ _)

theorem State.miss_keepsBounds (j : Station) : s.KeepsBounds (s.miss j) :=
  have counted (e : RosterEntry) := s.withEntry_keepsBounds (stationIndex j) e
  .ite
    (.ite ((counted _).trans (State.stalePublished_keepsBounds _ j []))
      ((counted _).trans ((State.raise_keepsBounds _ _).trans
        ((State.stalePublished_keepsBounds _ j []).trans (State.refreshLines_keepsBounds _)))))
    (.refl s)

theorem State.countMisses_keepsBounds (a : Option Station) (k : Station) : s.KeepsBounds (s.countMisses a k) := by
  unfold State.countMisses
  split
  · exact .refl s
  · exact .foldl (fun s d => .ite (s.miss_keepsBounds _) (.refl s)) _ s

theorem State.applyHeader_keepsBounds (a : Option Station) (source : Station) (hold : Bool) :
    s.KeepsBounds (s.applyHeader a source hold) :=
  (s.countMisses_keepsBounds a source).trans ((State.withEntry_keepsBounds _ _ _).trans (State.refreshLines_keepsBounds _))

end Roster

/-! ### Console commands -/

section Commands

variable (s : State) (requester : Station)

theorem State.perform_keepsBounds (c : Cmd) : s.KeepsBounds (s.perform requester c).state := by
  cases c with
  | readStatus page handle => exact (s.readStatus_state page handle).symm ▸ .refl s
  | readQueue handle index => exact (s.readQueue_state handle index).symm ▸ .refl s
  | trimWindow window lower upper =>
    simp only [State.perform, State.trimWindow]
    split
    · exact .refl s
    · split
      · exact .refl s
      · split
        · exact withWorks_keepsBounds (.same (by rw [Works.recompute_frame]) (by rw [Works.recompute_frame]))
        · exact .refl s
  | injectEntry handle due sequence tagClass forward action =>
    simp only [State.perform, State.injectEntry]
    split
    · exact .refl s
    · split
      · exact .of_works rfl (s.works.offer_keepsBounds s.env _ _)
      · exact .refl s
  | pulseOutput line width =>
    simp only [State.perform, State.pulseOutput]
    split
    · exact .refl s
    · split_ifs
      · exact .refl s
      · exact .refl s
      · exact .of_works rfl (s.works.act_keepsBounds s.env none _)
  | setOrigin handle value =>
    exact s.onLocalAxis_state (.refl s) fun i => by
      split
      · exact s.originEvent_keepsBounds i value
      · exact .refl s
  | armIndex handle value =>
    exact s.onLocalAxis_state (.refl s) fun i => by
      split
      · exact s.withAxis_keepsBounds i _
      · exact .refl s
  | armIndexCancel handle => exact s.onLocalAxis_state (.refl s) fun i => s.withAxis_keepsBounds i _
  | trimCam | trimRule | armRule | armRing | clearQueue =>
    simp only [State.perform, State.trimCam, State.trimRule, State.armRule, State.armRing, State.clearQueue]
    repeat' split
    all_goals exact .quiet rfl rfl rfl
  | clearCounts =>
    exact ⟨fun range => ⟨fun j => (Bank.get_fill ..).trans_le (Nat.zero_le _), range.2⟩, id⟩
  | restart | unfit | unknown => exact .quiet rfl rfl rfl

theorem State.execute_keepsBounds (c : Cmd) : s.KeepsBounds (s.execute requester c).state := by
  unfold State.execute
  split_ifs
  · exact .refl s
  · exact .refl s
  · exact .refl s
  · exact s.perform_keepsBounds requester c

/-! ### Answers (R153) -/

theorem State.readStatus_data (page handle : Byte) : (s.readStatus page handle).data.length ≤ 12 := by
  have one (h : Handle) : (s.page1 h).length = 12 := by
    unfold State.page1
    cases s.armOf h <;> rfl
  unfold State.readStatus
  split
  case h_1 => exact (by decide : 10 ≤ 12)
  case h_2 =>
    split
    · exact (one _).le
    · exact Nat.zero_le _
  case h_6 => exact (by decide : 2 ≤ 12)
  case h_8 => exact Nat.zero_le _
  all_goals exact le_rfl

theorem State.readQueue_data (handle index : Byte) : (s.readQueue handle index).data.length ≤ 12 := by
  have entry (e : Entry) : e.bytes.length = 12 := by
    have action : (actionBytes e.action).length = 3 := by
      unfold actionBytes
      split
      · rfl
      · split <;> rfl
    simp only [Entry.bytes, List.length_append, action]
    rfl
  unfold State.readQueue
  split
  · exact Nat.zero_le _
  · split
    · exact (entry _).le
    · exact Nat.zero_le _

/-- No origin command answers with data. -/
theorem State.onLocalAxis_data {handle : Byte} {f : Fin 2 → Answer} (effect : ∀ i, (f i).data = []) :
    (s.onLocalAxis handle f).data.length ≤ 12 := by
  unfold State.onLocalAxis
  split
  · exact Nat.zero_le _
  · split
    · exact Nat.zero_le _
    · exact effect _ ▸ Nat.zero_le _

theorem State.perform_data (c : Cmd) : (s.perform requester c).data.length ≤ 12 := by
  cases c with
  | readStatus page handle => exact s.readStatus_data page handle
  | readQueue handle index => exact s.readQueue_data handle index
  | setOrigin handle value => exact s.onLocalAxis_data fun i => by split <;> rfl
  | armIndex handle value => exact s.onLocalAxis_data fun i => by split <;> rfl
  | armIndexCancel handle => exact s.onLocalAxis_data fun _ => rfl
  | clearQueue handle =>
    simp only [State.perform, State.clearQueue]
    split
    · exact (by decide : 1 ≤ 12)
    · split
      · exact Nat.zero_le _
      · exact (by decide : 1 ≤ 12)
  | trimCam | trimRule | trimWindow | armRule | armRing | injectEntry | pulseOutput =>
    simp only [State.perform, State.trimCam, State.trimRule, State.trimWindow, State.armRule, State.armRing,
      State.injectEntry, State.pulseOutput]
    repeat' split
    all_goals exact Nat.zero_le _
  | clearCounts | restart | unfit | unknown => exact Nat.zero_le _

theorem State.execute_data (c : Cmd) : (s.execute requester c).data.length ≤ 12 := by
  unfold State.execute
  split_ifs
  · exact Nat.zero_le _
  · exact Nat.zero_le _
  · exact Nat.zero_le _
  · exact s.perform_data requester c

/-- A response that is held in a record. -/
theorem State.cached_data {s : State} {tid : Byte} {r : Response} (sound : s.TxSound) (held : s.cached requester tid = some r) :
    r.data.length ≤ 12 := by
  unfold State.cached at held
  split at held
  · cases held
  · rename_i x record
    split at held
    · cases held
      exact (s.txSound_iff.mp sound).2 _ x record
    · cases held

/-- An answer that finds a place is queued and stored. -/
theorem Answer.deliver_keepsBounds {s : State} {a : Answer} (tid : Byte) (c : Cmd) (place : s.works.responsesHeld < 4)
    (effect : s.KeepsBounds a.state) (held : a.state.replies = s.replies) (short : a.data.length ≤ 12) :
    s.KeepsBounds (a.deliver requester tid c) := by
  refine ⟨fun range => ?_, fun sound => ?_⟩
  · have before : a.state.works.notices.InRange := effect.counts range
    rw [Answer.deliver_eq]
    split
    · exact before.count 18
    · exact before
  · have waiting : a.state.works.responses = s.works.responses := congrArg Prod.snd held
    have room : a.state.works.responsesHeld < 4 := by
      rw [Works.responsesHeld, List.countP_eq_length_filter] at place ⊢
      exact congrArg List.length waiting ▸ place
    obtain ⟨queued, recorded⟩ := a.deliver_replies requester tid c
    obtain ⟨sends, records⟩ := a.state.txSound_iff.mp (effect.sends sound)
    refine (State.txSound_iff _).mpr ⟨sends.response room short queued, fun n x record => ?_⟩
    rw [recorded, Bank.get_put] at record
    split at record
    · cases record
      exact short
    · exact records n x record

theorem State.takeCommand_keepsBounds (tid : Byte) (c : Cmd) : s.KeepsBounds (s.takeCommand requester tid c) := by
  unfold State.takeCommand
  split_ifs with apart full
  · exact .refl s
  · exact s.raise_keepsBounds _
  · have place : s.works.responsesHeld < 4 := Nat.not_le.mp full
    split
    · rename_i r held
      refine ⟨id, fun sound => ?_⟩
      obtain ⟨sends, records⟩ := s.txSound_iff.mp sound
      exact (State.txSound_iff _).mpr ⟨sends.response place (State.cached_data requester sound held) rfl, records⟩
    · exact Answer.deliver_keepsBounds requester tid c place (s.execute_keepsBounds requester c)
        (s.execute_replies requester c) (s.execute_data requester c)

end Commands

/-! ### The items of a frame -/

section Items

variable (s : State) (source : Station)

theorem State.applyAxisItem_keepsBounds (r : AxisReport) : s.KeepsBounds (s.applyAxisItem source r).2 := by
  unfold State.applyAxisItem
  split
  · exact .refl s
  · split
    · exact s.raise_keepsBounds _
    · split
      · exact .refl s
      · dsimp only
        split_ifs
        · exact s.raise_keepsBounds _
        · exact s.raise_keepsBounds _
        · exact s.applyReport_keepsBounds _ r

theorem State.applyItem_keepsBounds (taken : List (Fin 6)) (i : Item) : s.KeepsBounds (s.applyItem source taken i).2 := by
  unfold State.applyItem
  split
  · split
    · exact s.raise_keepsBounds _
    · exact s.applyAxisItem_keepsBounds source _
  · split
    · exact s.raise_keepsBounds _
    · split
      · exact withWorks_keepsBounds (s.works.remoteTag_keepsBounds s.env _)
      · exact .refl s
  · split
    · exact s.raise_keepsBounds _
    · split
      · exact s.takeCommand_keepsBounds source _ _
      · exact .refl s
  · exact .refl s

theorem State.applyItems_keepsBounds (taken : List (Fin 6)) (items : List Item) :
    s.KeepsBounds (s.applyItems source taken items).2 := by
  induction items generalizing s taken with
  | nil => exact .refl s
  | cons i rest ih => exact (s.applyItem_keepsBounds source taken i).trans (ih _ _)

theorem State.applyBody_keepsBounds (f : Frame) : s.KeepsBounds (s.applyBody f) :=
  (s.applyItems_keepsBounds _ _ _).trans (State.stalePublished_keepsBounds _ _ _)

end Items

/-! ### The bus -/

section BusControl

variable (s : State)

theorem State.join_keepsBounds : s.KeepsBounds s.join := .quiet rfl rfl rfl

/-- The transmit queue is emptied (R134). -/
theorem State.lockOut_keepsBounds : s.KeepsBounds s.lockOut :=
  .of_works rfl ⟨id, fun sends => sends.of_sublist (List.nil_sublist _)⟩

theorem State.busSample_keepsBounds (x : BusSample) : s.KeepsBounds (s.busSample x) := by
  cases x with
  | start idle stop => exact .ite (s.withBus_keepsBounds _) (.refl s)
  | spike => exact .refl s
  | level rxd => exact s.withBus_keepsBounds _

theorem State.corruptFrame_keepsBounds (idle : Nat) : s.KeepsBounds (s.corruptFrame idle) :=
  (s.raise_keepsBounds _).trans (State.withBus_keepsBounds _ _)

theorem State.ownNumberFrame_keepsBounds : s.KeepsBounds s.ownNumberFrame :=
  .ite (s.withBus_keepsBounds _) ((s.withBus_keepsBounds _).trans (State.lockOut_keepsBounds _))

theorem State.acceptFrame_keepsBounds (f : Frame) : s.KeepsBounds (s.acceptFrame f) := by
  have counted := withWorks_keepsBounds (s.works.count_keepsBounds framesReceived)
  have heard := counted.trans (State.applyHeader_keepsBounds _ s.bus.anchor f.source f.hold)
  have body (t : State) := t.applyBody_keepsBounds f
  have joins (t : State) := t.join_keepsBounds
  unfold State.acceptFrame
  dsimp only
  generalize (s.withWorks (s.works.count framesReceived)).applyHeader s.bus.anchor f.source f.hold = t at heard ⊢
  refine (heard.trans (t.withBus_keepsBounds _)).trans (.ite (.ite ((body _).trans (joins _)) ?_) (body _))
  exact (State.draw_keepsBounds _).trans (.ite ((body _).trans (joins _)) ((joins _).trans (body _)))

theorem State.judgeFrame_keepsBounds (bytes : List Byte) : s.KeepsBounds (s.judgeFrame bytes) := by
  unfold State.judgeFrame
  split
  · exact s.corruptFrame_keepsBounds 0
  · exact .ite s.ownNumberFrame_keepsBounds (s.acceptFrame_keepsBounds _)

theorem State.frameEnd_keepsBounds (bytes : List Byte) : s.KeepsBounds (s.frameEnd bytes) := by
  unfold State.frameEnd
  split
  · exact s.withBus_keepsBounds _
  · exact s.withBus_keepsBounds _
  · exact s.corruptFrame_keepsBounds 0
  · have judged := s.judgeFrame_keepsBounds (cutFrame bytes).1
    exact .ite judged (judged.trans (State.withBus_keepsBounds _ _))

theorem State.idleEnd_keepsBounds : s.KeepsBounds s.idleEnd := by
  unfold State.idleEnd
  dsimp only
  split
  · exact s.withBus_keepsBounds _
  · exact s.withBus_keepsBounds _
  · exact s.corruptFrame_keepsBounds _

theorem State.emptyBus_keepsBounds : s.KeepsBounds s.emptyBus :=
  .ite ((s.withBus_keepsBounds _).trans (State.join_keepsBounds _)) (.refl s)

theorem State.startFrame_keepsBounds : s.KeepsBounds s.startFrame := .ite (s.withBus_keepsBounds _) (.refl s)

theorem State.completeRoster_keepsBounds (a : Option Station) (f : Flight) : s.KeepsBounds (s.completeRoster a f) :=
  (s.withEntry_keepsBounds _ _).trans ((State.countMisses_keepsBounds _ _ _).trans (State.refreshLines_keepsBounds _))

theorem State.completeFrame_keepsBounds (f : Flight) : s.KeepsBounds (s.completeFrame f) := by
  have ended := s.withBus_keepsBounds { s.bus.frameEnded (some s.bus.number) 0 with flight := none, rxd := true }
  have sent := ended.trans (withWorks_keepsBounds (s.works.completeItems_keepsBounds f))
  have noted (w : Works) := w.completeNotes_keepsBounds f
  unfold State.completeFrame
  dsimp only
  refine sent.trans (.ite ?_ (.ite ?_ ?_))
  · exact (withWorks_keepsBounds (noted _)).trans (State.completeRoster_keepsBounds _ _ f)
  · exact (State.draw_keepsBounds _).trans
      ((withWorks_keepsBounds (noted _)).trans (State.completeRoster_keepsBounds _ _ f))
  · exact (State.draw_keepsBounds _).trans
      ((State.completeRoster_keepsBounds _ _ f).trans (withWorks_keepsBounds (noted _)))

/-- What a station holds to send is dropped, and so are its pending notices (R184). -/
theorem State.warmRestart_keepsBounds : s.KeepsBounds s.warmRestart := by
  have restarted {t : State} (records : ∀ n, t.command.cache.get n = none) (works : s.works.KeepsBounds t.works) :
      s.KeepsBounds t := by
    refine ⟨works.counts, fun sound => (State.txSound_iff t).mpr ⟨works.sends (s.txSound_iff.mp sound).1, ?_⟩⟩
    intro n x record
    cases (records n).symm.trans record
  unfold State.warmRestart
  dsimp only
  refine .after (State.recomputeAll_keepsBounds _) (.after (State.refreshLines_keepsBounds _) ?_)
  refine .after (.foldl (fun s i => s.restartMirror_keepsBounds i) _ _) ?_
  exact restarted (fun _ => Bank.get_fill ..) s.works.restart_keepsBounds

theorem State.complete_keepsBounds : s.KeepsBounds s.complete := by
  unfold State.complete
  split
  · exact .refl s
  · rename_i f _
    exact .ite ((s.completeFrame_keepsBounds f).trans (State.warmRestart_keepsBounds _)) (s.completeFrame_keepsBounds f)

theorem State.abortFrame_keepsBounds (x : Mismatch) : s.KeepsBounds (s.abortFrame x) := by
  unfold State.abortFrame
  split
  · exact .refl s
  · exact (s.raise_keepsBounds _).trans (State.withBus_keepsBounds _ _)

end BusControl

/-! ### Start-up -/

section StartUp

variable (s : State)

theorem State.cold_keepsBounds : s.KeepsBounds s.cold := ⟨fun _ => s.cold_countsInRange, fun _ => s.cold_txSound⟩

theorem State.coldReset_keepsBounds (number : Station) (rate : BitVec 2) : s.KeepsBounds (s.coldReset number rate) :=
  s.cold_keepsBounds.trans (.quiet rfl rfl rfl)

theorem State.configure_keepsBounds (c : Settings) : s.KeepsBounds (s.configure c) := by
  unfold State.configure
  dsimp only
  exact .after (State.recomputeAll_keepsBounds _) (.after (State.refreshLines_keepsBounds _) (.quiet rfl rfl rfl))

theorem State.judgePass_keepsBounds (memory : List Byte) (miso : Bool) : s.KeepsBounds (s.judgePass memory miso) := by
  unfold State.judgePass
  split
  · exact .ite (.quiet rfl rfl rfl) (.quiet rfl rfl rfl)
  · dsimp only
    split
    · exact .quiet rfl rfl rfl
    · exact s.configure_keepsBounds _

end StartUp

/-! ### The clock -/

section Clock

variable (s : State)

theorem State.expire_keepsBounds (q : Fin 8) : s.KeepsBounds (s.withWorks (s.works.expire q)) :=
  withWorks_keepsBounds (s.works.expire_keepsBounds q)

theorem State.sound_keepsBounds (a : Alarm) : s.KeepsBounds (s.sound a) := by
  cases a with
  | pulse q => exact s.expire_keepsBounds q
  | sensor k => exact s.qualifyPending_keepsBounds k
  | holdIn => exact s.holdInQualified_keepsBounds
  | frameEnd => exact s.idleEnd_keepsBounds
  | emptyBus => exact s.emptyBus_keepsBounds
  | wait => exact s.startFrame_keepsBounds

theorem State.soundAll_keepsBounds (l : List Alarm) : s.KeepsBounds (s.soundAll l) :=
  .foldl (fun s a => .ite (s.sound_keepsBounds a) (.refl s)) l s

theorem State.tick_keepsBounds : s.KeepsBounds s.tick := by
  have advanced : s.KeepsBounds s.advanceClock := .quiet rfl rfl rfl
  have arranged (t : State) (l : List Alarm) : t.KeepsBounds (t.withWorks (t.works.arrange l).2) :=
    withWorks_keepsBounds (.same (by rw [Works.arrange_works]) (by rw [Works.arrange_works]))
  exact .ite (.refl s) (advanced.trans ((arranged _ _).trans (State.soundAll_keepsBounds _ _)))

end Clock

/-! ### The rows -/

/-- Whatever row brought it, a command keeps both bounds. -/
theorem exec_keepsBounds (i : Instr) (s : State) : ∃ t, exec i s = .next t ∧ s.KeepsBounds t := by
  cases i with
  | coldReset number rate => exact ⟨_, rfl, s.coldReset_keepsBounds number rate⟩
  | readPass memory miso => exact ⟨_, rfl, .ite (s.judgePass_keepsBounds memory miso) (.refl s)⟩
  | quad4Edge axis a b => exact ⟨_, rfl, s.sampleAB_keepsBounds axis a b⟩
  | pulseDirEdge axis a b => exact ⟨_, rfl, s.sampleAB_keepsBounds axis a b⟩
  | upDownEdge axis a b => exact ⟨_, rfl, s.sampleAB_keepsBounds axis a b⟩
  | risingZEdge axis z => exact ⟨_, rfl, s.sampleZ_keepsBounds axis z⟩
  | timedPulseExpiry line => exact ⟨_, rfl, s.expire_keepsBounds line⟩
  | sensorPinChange sensor level => exact ⟨_, rfl, s.sensorSample_keepsBounds sensor level⟩
  | qualifiedChange sensor => exact ⟨_, rfl, s.qualifyPending_keepsBounds sensor⟩
  | holdInChange level => exact ⟨_, rfl, .quiet rfl rfl rfl⟩
  | holdInQualify => exact ⟨_, rfl, s.holdInQualified_keepsBounds⟩
  | startBit sample => exact ⟨_, rfl, s.busSample_keepsBounds sample⟩
  | receiveFrame bytes => exact ⟨_, rfl, .ite (s.frameEnd_keepsBounds bytes) (.refl s)⟩
  | frameEndByIdle => exact ⟨_, rfl, .ite s.idleEnd_keepsBounds (.refl s)⟩
  | emptyBus => exact ⟨_, rfl, s.emptyBus_keepsBounds⟩
  | waitExpiry => exact ⟨_, rfl, s.startFrame_keepsBounds⟩
  | completion => exact ⟨_, rfl, s.complete_keepsBounds⟩
  | abort mismatch => exact ⟨_, rfl, s.abortFrame_keepsBounds mismatch⟩
  | resetNAsserted => exact ⟨_, rfl, s.cold_keepsBounds⟩
  | _ => exact ⟨_, rfl, s.takeCommand_keepsBounds ..⟩

theorem step_keepsBounds {s t : State} (e : step s = .next t) : s.KeepsBounds t := by
  unfold step at e
  split at e
  · cases e
    exact s.tick_keepsBounds
  · rename_i c rest _
    have popped : s.KeepsBounds { s with pending := rest } := .quiet rfl rfl rfl
    obtain ⟨u, completes, keeps⟩ := exec_keepsBounds c { s with pending := rest }
    cases completes.symm.trans e
    exact popped.trans keeps

/-- Settles O55: counts stop at their bounds (`Notices.InRange.raise`), a tag or a response joins the transmit queue where it
finds a place (`Works.SendsInBounds.tag`, `Works.SendsInBounds.response`), and no row does more than that (`exec_keepsBounds`). -/
theorem stepKeepsBounds : Obligations.StepKeepsBounds :=
  ⟨fun _ _ range e => (step_keepsBounds e).counts range, fun _ _ sound e => (step_keepsBounds e).sends sound⟩

end Sys2Proof.Machine
end
